-- ==== Sys2Proof/Word.lean ====
section
/-! DEFINITION. The word types of the PCS block: 32-bit host registers (00_scope.md R9 `P_REG_W`,
R10) and 8-bit bytes (R10). -/

namespace Sys2Proof

/-- A host register or command word: 32 bits, bit 0 the least significant (R9, R10). -/
abbrev Word := BitVec 32

/-- A byte: 8 bits (R10). -/
abbrev Byte := BitVec 8

end Sys2Proof
end

