-- ==== Sys2Proof/Config.lean ====
section
/-! DEFINITION. The implementation parameters of 00_scope.md R9: the fixed ones as constants, the
OPEN ones that the block reads as the record `Params` (the machine takes them as arguments: the
State field `params` holds them and no step changes them), and the platform's window base as an
uninterpreted constant. The host-side parameters stand in Machine/HostConv.lean beside their use. -/

namespace Sys2Proof.Config

/-- `P_MS_HIGH_T2` (R9, 42_ms5637.md R155): the reading of the MS5637 high-range `T2`. -/
inductive HighT2 where
  /-- `T2 = (5 * dT * dT) >> 38`. -/
  | datasheet
  /-- `T2 = 0`. -/
  | zero
  deriving DecidableEq, Repr

/-- The OPEN parameters that the block itself reads (R9). -/
structure Params where
  /-- `P_FE_POLL_MAX`: the bound on transceive and authentication polls, at least 1 (R9, R87). -/
  fePollMax : Nat
  /-- `P_CHECK_RX_CRC`: whether the CRCs of SELECT and READ replies are checked (R9, R178). -/
  checkRxCrc : Bool
  /-- `P_MS_HIGH_T2` (R9, R155). -/
  msHighT2 : HighT2
  deriving DecidableEq, Repr

/-- The defaults of R9: 255 polls, no reply-CRC check, the datasheet reading. -/
def Params.default : Params := { fePollMax := 255, checkRxCrc := false, msHighT2 := .datasheet }

/-- `P_CRC_POLL_MAX`, fixed at 255 (R9, R87). -/
def crcPollMax : Nat := 255

/-- `P_WINDOW`, the size of the host window in bytes (R9, R63). -/
def windowSize : Nat := 1024

/-- `P_BASE`, the platform address of the window (R9, R63): OPEN with no default, so it has no
body here and nothing can be proved of its value. -/
opaque windowBase : Nat

end Sys2Proof.Config
end

