-- ==== Sys2Proof/Syntax.lean ====
section
/-! DEFINITION. The command set as syntax: one constructor of `Instr` for each row of
spec/opcode_table.json (30_encoding.md R100), with the operand fields of R97 and R98. -/

namespace Sys2Proof

/-- The mode field M of REQUEST and SCAN (R97, R106). -/
inductive ReqMode where
  /-- M = 0: REQA, frame byte 0x26. -/
  | reqA
  /-- M = 1: WUPA, frame byte 0x52. -/
  | wupA
  deriving DecidableEq, Repr

/-- The key-type field K of AUTH (R97, R106). -/
inductive KeyType where
  /-- K = 0: key A, command byte 0x60. -/
  | keyA
  /-- K = 1: key B, command byte 0x61. -/
  | keyB
  deriving DecidableEq, Repr

/-- The card-kind field C of READ (R97). -/
inductive CardKind where
  /-- C = 0: NTAG page read. -/
  | ntag
  /-- C = 1: Classic block read. -/
  | classic
  deriving DecidableEq, Repr

/-- The 21 opcodes of R100, without operands. -/
inductive Op where
  | nop
  | bmeCalCommit | bmeCalClear | bmeT | bmeP | bmeH | bmeAll
  | msCalCommit | msCalClear | msComp
  | crcCalc | crcCheck
  | request | anticoll | select | scan | auth | stopCrypto | read | writeClassic | writeNtag
  deriving DecidableEq, Repr

/-- A command of the block: one constructor per row of the opcode table (R100), carrying the
operands of the word (R97, R98). The level field L is kept at its two encoded bits; `Instr.wf`
(WellFormed.lean) says which values are legal. -/
inductive Instr where
  | nop
  | bmeCalCommit
  | bmeCalClear
  | bmeT
  | bmeP
  | bmeH
  | bmeAll
  | msCalCommit
  | msCalClear
  | msComp
  | crcCalc
  | crcCheck
  | request (m : ReqMode)
  | anticoll (l : BitVec 2)
  | select (l : BitVec 2)
  | scan (m : ReqMode)
  | auth (k : KeyType) (a : Byte)
  | stopCrypto
  | read (c : CardKind) (a : Byte)
  | writeClassic (a : Byte)
  | writeNtag (a : Byte)
  deriving DecidableEq, Repr

/-- The opcode of a command. -/
def Instr.op : Instr → Op
  | .nop => .nop
  | .bmeCalCommit => .bmeCalCommit
  | .bmeCalClear => .bmeCalClear
  | .bmeT => .bmeT
  | .bmeP => .bmeP
  | .bmeH => .bmeH
  | .bmeAll => .bmeAll
  | .msCalCommit => .msCalCommit
  | .msCalClear => .msCalClear
  | .msComp => .msComp
  | .crcCalc => .crcCalc
  | .crcCheck => .crcCheck
  | .request _ => .request
  | .anticoll _ => .anticoll
  | .select _ => .select
  | .scan _ => .scan
  | .auth _ _ => .auth
  | .stopCrypto => .stopCrypto
  | .read _ _ => .read
  | .writeClassic _ => .writeClassic
  | .writeNtag _ => .writeNtag

end Sys2Proof
end

