-- ==== Sys2Proof/WellFormed.lean ====
section
/-! DEFINITION. Which terms of `Instr` stand for legal commands: the one operand value the command
set excludes is the cascade level L = 0 (30_encoding.md R97, R101 step 3). Every other operand is
legal at all its values (R98: every address 0..255 is legal at the block). -/

namespace Sys2Proof

/-- The legality of a command's operand values (R97, R98, R101 step 3). -/
def Instr.wf : Instr → Bool
  | .nop => true
  | .bmeCalCommit => true
  | .bmeCalClear => true
  | .bmeT => true
  | .bmeP => true
  | .bmeH => true
  | .bmeAll => true
  | .msCalCommit => true
  | .msCalClear => true
  | .msComp => true
  | .crcCalc => true
  | .crcCheck => true
  | .request _ => true
  | .anticoll l => l != 0
  | .select l => l != 0
  | .scan _ => true
  | .auth _ _ => true
  | .stopCrypto => true
  | .read _ _ => true
  | .writeClassic _ => true
  | .writeNtag _ => true

end Sys2Proof
end

