-- ==== Sys2Proof/Decode.lean ====
section
/-! DEFINITION. Command decoding and encoding (30_encoding.md R96 to R103). `decode` is total on
32-bit words and answers either a legal command or one illegal verdict by name (R103); `encode`
assembles the word `{8'h00, A, F, OP}` (R107) from the same tables. -/

namespace Sys2Proof

/-- The three illegal verdicts of R101, in the order the block checks them. -/
inductive Verdict where
  /-- Step 1: OP is not a defined opcode (`CMD_UNKNOWN_OPCODE`). -/
  | unknownOpcode
  /-- Step 2: RSV, an undefined F bit, or an unused A is not 0 (`CMD_RESERVED_BITS`). -/
  | reservedBits
  /-- Step 3: ANTICOLL or SELECT with L = 0 (`CMD_BAD_FIELD`). -/
  | badField
  deriving DecidableEq, Repr

/-- The opcode numbers of R100. -/
def Op.code : Op → Byte
  | .nop => 0x00
  | .bmeCalCommit => 0x10
  | .bmeCalClear => 0x11
  | .bmeT => 0x12
  | .bmeP => 0x13
  | .bmeH => 0x14
  | .bmeAll => 0x15
  | .msCalCommit => 0x20
  | .msCalClear => 0x21
  | .msComp => 0x22
  | .crcCalc => 0x30
  | .crcCheck => 0x31
  | .request => 0x40
  | .anticoll => 0x41
  | .select => 0x42
  | .scan => 0x43
  | .auth => 0x44
  | .stopCrypto => 0x45
  | .read => 0x46
  | .writeClassic => 0x47
  | .writeNtag => 0x48

/-- The defined opcodes, in the order of R100. -/
def Op.all : List Op :=
  [.nop, .bmeCalCommit, .bmeCalClear, .bmeT, .bmeP, .bmeH, .bmeAll] ++
  [.msCalCommit, .msCalClear, .msComp, .crcCalc, .crcCheck] ++
  [.request, .anticoll, .select, .scan, .auth, .stopCrypto, .read, .writeClassic, .writeNtag]

/-- The opcode with a given code byte, if any: every other value is reserved (R99). -/
def Op.ofCode (b : Byte) : Option Op := Op.all.find? fun o => o.code == b

/-- The defined bits of the modifier byte F for each opcode (R97); every other bit must be 0. -/
def Op.fBits : Op → Byte
  | .request => 0x01
  | .scan => 0x01
  | .anticoll => 0x03
  | .select => 0x03
  | .auth => 0x01
  | .read => 0x01
  | .nop | .bmeCalCommit | .bmeCalClear | .bmeT | .bmeP | .bmeH | .bmeAll => 0x00
  | .msCalCommit | .msCalClear | .msComp | .crcCalc | .crcCheck => 0x00
  | .stopCrypto | .writeClassic | .writeNtag => 0x00

/-- Whether the opcode takes the address byte A (R96, R98). -/
def Op.hasAddr : Op → Bool
  | .auth | .read | .writeClassic | .writeNtag => true
  | .nop | .bmeCalCommit | .bmeCalClear | .bmeT | .bmeP | .bmeH | .bmeAll => false
  | .msCalCommit | .msCalClear | .msComp | .crcCalc | .crcCheck => false
  | .request | .anticoll | .select | .scan | .stopCrypto => false

/-- Field OP of a command word, bits [7:0] (R96). -/
def wordOp (w : Word) : Byte := w.extractLsb' 0 8

/-- Field F of a command word, bits [15:8] (R96). -/
def wordF (w : Word) : Byte := w.extractLsb' 8 8

/-- Field A of a command word, bits [23:16] (R96). -/
def wordA (w : Word) : Byte := w.extractLsb' 16 8

/-- Field RSV of a command word, bits [31:24] (R96). -/
def wordRsv (w : Word) : Byte := w.extractLsb' 24 8

/-- The mode that F[0] selects (R97). -/
def ReqMode.ofF (f : Byte) : ReqMode := if f.getLsbD 0 then .wupA else .reqA

/-- The key type that F[0] selects (R97). -/
def KeyType.ofF (f : Byte) : KeyType := if f.getLsbD 0 then .keyB else .keyA

/-- The card kind that F[0] selects (R97). -/
def CardKind.ofF (f : Byte) : CardKind := if f.getLsbD 0 then .classic else .ntag

/-- The command of an opcode with modifier byte F and address byte A (R97, R98). -/
def Op.build (o : Op) (f a : Byte) : Instr :=
  match o with
  | .nop => .nop
  | .bmeCalCommit => .bmeCalCommit
  | .bmeCalClear => .bmeCalClear
  | .bmeT => .bmeT
  | .bmeP => .bmeP
  | .bmeH => .bmeH
  | .bmeAll => .bmeAll
  | .msCalCommit => .msCalCommit
  | .msCalClear => .msCalClear
  | .msComp => .msComp
  | .crcCalc => .crcCalc
  | .crcCheck => .crcCheck
  | .request => .request (ReqMode.ofF f)
  | .anticoll => .anticoll (f.extractLsb' 0 2)
  | .select => .select (f.extractLsb' 0 2)
  | .scan => .scan (ReqMode.ofF f)
  | .auth => .auth (KeyType.ofF f) a
  | .stopCrypto => .stopCrypto
  | .read => .read (CardKind.ofF f) a
  | .writeClassic => .writeClassic a
  | .writeNtag => .writeNtag a

/-- Step 2 of R101: no bit outside the opcode's fields is 1. -/
def reservedClear (o : Op) (w : Word) : Bool :=
  wordRsv w == 0 && (wordF w &&& ~~~o.fBits) == 0 && (o.hasAddr || wordA w == 0)

/-- The legality check and decoding of a command word: the three steps of R101 in order, total by
construction (R103). -/
def decode (w : Word) : Except Verdict Instr :=
  match Op.ofCode (wordOp w) with
  | none => .error .unknownOpcode
  | some o =>
    if reservedClear o w then
      if (o.build (wordF w) (wordA w)).wf then .ok (o.build (wordF w) (wordA w))
      else .error .badField
    else .error .reservedBits

/-- The modifier byte of a mode operand (R97). -/
def ReqMode.toF : ReqMode → Byte
  | .reqA => 0
  | .wupA => 1

/-- The modifier byte of a key-type operand (R97). -/
def KeyType.toF : KeyType → Byte
  | .keyA => 0
  | .keyB => 1

/-- The modifier byte of a card-kind operand (R97). -/
def CardKind.toF : CardKind → Byte
  | .ntag => 0
  | .classic => 1

/-- The modifier byte F of a command (R97). -/
def Instr.f : Instr → Byte
  | .request m => m.toF
  | .scan m => m.toF
  | .anticoll l => l.setWidth 8
  | .select l => l.setWidth 8
  | .auth k _ => k.toF
  | .read c _ => c.toF
  | .nop | .bmeCalCommit | .bmeCalClear | .bmeT | .bmeP | .bmeH | .bmeAll => 0
  | .msCalCommit | .msCalClear | .msComp | .crcCalc | .crcCheck => 0
  | .stopCrypto | .writeClassic _ | .writeNtag _ => 0

/-- The address byte A of a command, 0 where it takes none (R96). -/
def Instr.addr : Instr → Byte
  | .auth _ a => a
  | .read _ a => a
  | .writeClassic a => a
  | .writeNtag a => a
  | .nop | .bmeCalCommit | .bmeCalClear | .bmeT | .bmeP | .bmeH | .bmeAll => 0
  | .msCalCommit | .msCalClear | .msComp | .crcCalc | .crcCheck => 0
  | .request _ | .scan _ | .anticoll _ | .select _ | .stopCrypto => 0

/-- The word of a command, `{8'h00, A, F, OP}` (R96, R107). -/
def encode (i : Instr) : Word := (0x00#8 ++ i.addr) ++ (i.f ++ i.op.code)

/-- The command the decoder reads from `nbits` bits `w`, bits above `nbits` being 0. The block has
one 32-bit word per command and takes it as one value on the host port (R96), so no byte order
enters. -/
def decodeTableWord (nbits w : Nat) : Option Instr :=
  match decode (BitVec.ofNat 32 (w % 2 ^ nbits)) with
  | .ok i => some i
  | .error _ => none

end Sys2Proof
end

