-- ==== Sys2Proof/Machine/State.lean ====
section
/-! DEFINITION. The architectural state of the PCS block as plain data (10_state.md R20 to R62), the
reasons a step can stop, and the state after power-on reset (R59, 70_reset_and_hazards.md R235).

The block has no memory (20_memory.md R71, 00_scope.md R17): its whole host address space is the
register window, so every byte of it is a field below. Grouping: `Operands` holds the operand
registers (R57), `BmeUnit`, `MsUnit` and `SeqUnit` what the three families of commands write, `Regs`
all of them together, and `State` adds STATUS, IRQ, the command engine (R54) and the model's own
fields for the environment (notes/assumptions/2.md to 5.md). -/

namespace Sys2Proof.Machine

/-! ### Names of register fields -/

/-- `STATUS.RESULT`, the source's ProtocolStatus (R26); the value 3 is never produced (U9). -/
inductive Result where
  | ok
  | notag
  | error
  deriving DecidableEq, Repr

/-- `STATUS.CLASS`, the error class (R27); 5 to 7 are never produced (U9). -/
inductive ErrClass where
  | none
  | transport
  | protocol
  | data
  | command
  deriving DecidableEq, Repr

/-- `STATUS.CAUSE`, the causes of 60_exceptions.md R214; no other value is produced. -/
inductive Cause where
  | none
  | cmdUnknownOpcode
  | cmdReservedBits
  | cmdBadField
  | seqState
  | seqCryptoHeld
  | calNotLoaded
  | calIncomplete
  | tfineStale
  | divZeroGuard
  | resultRange
  | badLength
  | feBus
  | respLength
  | crcPollTimeout
  | fePollTimeout
  | feFault
  | bitCount
  | bccMismatch
  | crcMismatch
  | nak
  | authFailed
  | cascadeDepth
  | noResponse
  deriving DecidableEq, Repr

/-- `SESSION.STATE`, the tag-session states (R32); 5 to 7 are never produced (U9). -/
inductive SessState where
  | idle
  | requested
  | anticoll
  | selected
  | authenticated
  deriving DecidableEq, Repr

/-! ### Register groups -/

/-- The 19 BME280 shadow coefficient registers at their stored widths (R35). -/
structure BmeShadow where
  t1 : BitVec 16
  t2 : BitVec 16
  t3 : BitVec 16
  p1 : BitVec 16
  p2 : BitVec 16
  p3 : BitVec 16
  p4 : BitVec 16
  p5 : BitVec 16
  p6 : BitVec 16
  p7 : BitVec 16
  p8 : BitVec 16
  p9 : BitVec 16
  h1 : BitVec 8
  h2 : BitVec 16
  h3 : BitVec 8
  hpk0 : BitVec 8
  hpk1 : BitVec 8
  hpk2 : BitVec 8
  h6 : BitVec 8
  deriving DecidableEq, Repr

/-- The BME280 active set, hidden state (R37); `h4` and `h5` are the 12-bit integers that the
registers H4 and H5 show (R38). -/
structure BmeCal where
  t1 : BitVec 16
  t2 : BitVec 16
  t3 : BitVec 16
  p1 : BitVec 16
  p2 : BitVec 16
  p3 : BitVec 16
  p4 : BitVec 16
  p5 : BitVec 16
  p6 : BitVec 16
  p7 : BitVec 16
  p8 : BitVec 16
  p9 : BitVec 16
  h1 : BitVec 8
  h2 : BitVec 16
  h3 : BitVec 8
  h4 : BitVec 12
  h5 : BitVec 12
  h6 : BitVec 8
  deriving DecidableEq, Repr

/-- Seven MS5637 coefficients C0 to C6, unsigned 16-bit: the shadow registers (R42) and the active
set (R43) have this one shape. -/
structure MsCal where
  c0 : BitVec 16
  c1 : BitVec 16
  c2 : BitVec 16
  c3 : BitVec 16
  c4 : BitVec 16
  c5 : BitVec 16
  c6 : BitVec 16
  deriving DecidableEq, Repr

/-- The operand registers (R57), which only the host writes while the block is idle (READ also
writes `dbuf` at its finish, R51). A command samples them whole at accept (40_common.md R119). -/
structure Operands where
  /-- BME shadows (R35). -/
  bmeShadow : BmeShadow
  /-- `RAW_T`, 20 bits (R39). -/
  rawT : BitVec 20
  /-- `RAW_P`, 20 bits (R39). -/
  rawP : BitVec 20
  /-- `RAW_H`, 16 bits (R39). -/
  rawH : BitVec 16
  /-- MS shadows (R42). -/
  msShadow : MsCal
  /-- `D1`, 24 bits (R44). -/
  d1 : BitVec 24
  /-- `D2`, 24 bits (R44). -/
  d2 : BitVec 24
  /-- `LEN`, 6 bits (R46). -/
  len : BitVec 6
  /-- `AUTH_UID` (R49). -/
  authUid : Word
  /-- `KEY_LO`, write-only (R50). -/
  keyLo : Word
  /-- `KEY_HI[15:0]`, write-only; the upper bits are ignored (R50). -/
  keyHi : BitVec 16
  /-- `DBUF0` to `DBUF7` as the 32 bytes `dbuf[0..31]` (R51). -/
  dbuf : Vector Byte 32
  deriving DecidableEq, Repr

/-- What the BME280 commands write. -/
structure BmeUnit where
  /-- The active set (R37). -/
  cal : BmeCal
  /-- `CALSTAT.BME_VALID` (R33). -/
  valid : Bool
  /-- `BME_WMASK[18:0]` (R34). -/
  wmask : BitVec 19
  /-- `CALSTAT.TFINE_VALID` (R33, R40). -/
  tfineValid : Bool
  /-- `TFINE` (R41). -/
  tfine : Word
  /-- `T_OUT` (R41). -/
  tOut : Word
  /-- `P_OUT` (R41). -/
  pOut : Word
  /-- `H_OUT` (R41). -/
  hOut : Word
  deriving DecidableEq, Repr

/-- What the MS5637 commands write. -/
structure MsUnit where
  /-- The active set (R43). -/
  cal : MsCal
  /-- `CALSTAT.MS_VALID` (R33). -/
  valid : Bool
  /-- `CALSTAT.MS_WMASK`, bits [14:8] (R33). -/
  wmask : BitVec 7
  /-- `MS_TEMP` (R45). -/
  temp : Word
  /-- `MS_P` (R45). -/
  press : Word
  deriving DecidableEq, Repr

/-- What the sequencer's commands write: `SESSION` (R31), `ATQA_SAK` (R48), the UID (R52) and the
cascade-level buffers (R53). The accumulated UID is the list of its bytes, so `SESSION.UID_LEN` is
its length and the bytes of `UID_W*` at and above that index read 0 (notes/assumptions/6.md). -/
structure SeqUnit where
  /-- `SESSION.STATE` (R32). -/
  state : SessState
  /-- `SESSION.UID_VALID` (R31). -/
  uidValid : Bool
  /-- `SESSION.CRYPTO_HELD` (R31). -/
  cryptoHeld : Bool
  /-- `SESSION.LEVEL` (R31). -/
  level : BitVec 2
  /-- `SESSION.CT` (R31). -/
  ct : Bool
  /-- `uid[0..UID_LEN-1]` (R52). -/
  uid : List Byte
  /-- `ATQA_SAK.ATQA` (R48). -/
  atqa : BitVec 16
  /-- `ATQA_SAK.SAK` (R48). -/
  sak : Byte
  /-- `clbuf[1]`: `CL1_W0` and `CL1_W1[7:0]` (R53). -/
  cl1 : Vector Byte 5
  /-- `clbuf[2]` (R53). -/
  cl2 : Vector Byte 5
  /-- `clbuf[3]` (R53). -/
  cl3 : Vector Byte 5
  deriving DecidableEq, Repr

/-- Every register that a host operand write or a command's finish can change. -/
structure Regs where
  ops : Operands
  bme : BmeUnit
  ms : MsUnit
  /-- `CRC_RES[15:0]` (R47). -/
  crcRes : BitVec 16
  seq : SeqUnit
  deriving DecidableEq, Repr

/-! ### The front-end port and the command engine -/

/-- The front-end requests (20_memory.md R80 to R86). -/
inductive FeReq where
  /-- `fe.crc_start(data)` (R80). -/
  | crcStart (data : List Byte)
  /-- `fe.crc_poll()` (R81). -/
  | crcPoll
  /-- `fe.crc_read()` (R82). -/
  | crcRead
  /-- `fe.trx_start(tx, lastbits)` (R83). -/
  | trxStart (tx : List Byte) (lastbits : BitVec 3)
  /-- `fe.trx_poll()` (R84). -/
  | trxPoll
  /-- `fe.trx_read()` (R85). -/
  | trxRead
  /-- `fe.auth_start(payload)` (R86). -/
  | authStart (payload : List Byte)
  /-- `fe.auth_poll()` (R86). -/
  | authPoll
  /-- `fe.crypto_status()` (R86). -/
  | cryptoStatus
  /-- `fe.crypto_off()` (R86). -/
  | cryptoOff
  deriving DecidableEq, Repr

/-- The front-end answers (R79 to R86). -/
inductive FeAns where
  | busfail
  | ack
  | done
  | notdone
  | noresp
  | fault
  /-- `RES(lo, hi)` (R82). -/
  | res (lo hi : Byte)
  /-- `RX(bytes, bits)` (R85). -/
  | rx (bytes : List Byte) (bits : Nat)
  | on
  | off
  deriving DecidableEq, Repr

/-- Which helper call of a command's pseudocode the engine is in: the coarse part of `pc_seq`
(R54). A level parameter is the cascade level of that call. -/
inductive Stage where
  /-- `crc16` of CRC_CALC or CRC_CHECK (R164, R166). -/
  | crc
  /-- `trx` of `do_request` (R171). -/
  | request
  /-- `trx` of `do_anticoll(l)` (R174). -/
  | anticoll (l : BitVec 2)
  /-- `crc16` of the SELECT frame (R177). -/
  | selectCrc (l : BitVec 2)
  /-- `trx` of the SELECT frame (R177). -/
  | selectTrx (l : BitVec 2)
  /-- `crc16` that checks the SELECT reply (R177, `P_CHECK_RX_CRC = 1`). -/
  | selectChk (l : BitVec 2)
  /-- `auth` (R188). -/
  | auth
  /-- `fe.crypto_off` (R193). -/
  | cryptoOff
  /-- `crc16` of the READ frame (R195). -/
  | readCrc
  /-- `trx` of the READ frame (R195). -/
  | readTrx
  /-- `crc16` that checks the READ reply (R195, `P_CHECK_RX_CRC = 1`). -/
  | readChk
  /-- `crc16` of a write command frame (R197, R199). -/
  | writeCrc
  /-- `trx` of a write command frame (R197, R199). -/
  | writeTrx
  /-- `crc16` of the 16 data bytes of WRITE_CLASSIC (R197). -/
  | dataCrc
  /-- `trx` of the 16 data bytes of WRITE_CLASSIC (R197). -/
  | dataTrx
  deriving DecidableEq, Repr

/-- Which primitive of a helper comes next or awaits its answer: the fine part of `pc_seq` (R54).
In `auth` (R92) the third primitive is `fe.crypto_status`. -/
inductive Prim where
  | start
  | poll
  | read
  deriving DecidableEq, Repr

/-- `pc_seq`, the position in the running command's micro-sequence (R54). -/
inductive Pos where
  /-- The command was accepted and its first block step has not been taken (R117). -/
  | start
  /-- At a primitive of a helper call. -/
  | at (x : Stage) (p : Prim)
  deriving DecidableEq, Repr

/-- `phase` of the command engine, shown as `STATUS.BUSY` (R54). -/
inductive Phase where
  | idle
  | exec
  deriving DecidableEq, Repr

/-- A move of the environment (40_common.md R116, R217, 70_reset_and_hazards.md R234): which agent
takes the next step, with what the environment chooses in it. -/
inductive Event where
  /-- The block engine's turn. -/
  | engine
  /-- A host read of `bytes` bytes at window offset `off` (R63). -/
  | hostRead (off bytes : Nat)
  /-- A host write of `bytes` bytes at window offset `off` (R63). -/
  | hostWrite (off bytes : Nat) (v : Word)
  /-- The front-end's answer to the request that is out (R77). -/
  | answer (a : FeAns)
  /-- The platform's power-on reset (R234). -/
  | powerOn
  deriving DecidableEq, Repr

/-! ### Stops -/

/-- Why the machine stops with a fault. All three mark engine states that no rule produces (U9's
treatment, 93_implementation_defined.md A.2): safe, since the model stops where the hardware has no
behaviour, and `Safety.Inv` rules them out. -/
inductive Fault where
  /-- A command's meaning met a position that is not in its micro-sequence. Safe. -/
  | positionNotOfCommand
  /-- A command's meaning was resumed with no answer available. Safe. -/
  | answerMissing
  /-- A helper met an answer outside its primitive's alphabet. Safe. -/
  | answerOutsideAlphabet
  deriving DecidableEq, Repr

/-- Why a step is refused. No command is refused: these are moves of the environment that the spec
gives no step. -/
inductive Refusal where
  /-- An instruction with no meaning yet, by its table mnemonic. No arm answers with it. Safe. -/
  | notModelled (mnemonic : String)
  /-- A host access that is not 32 bits wide, not at a multiple of 4, or outside the window: R63
  says a model refuses it. Raised by `hostRead` and `hostWrite`. Safe. -/
  | hostAccess
  /-- A front-end answer while none is awaited: R116 enables that step only while `fe_wait = 1`, and
  R236 while a discarded answer is due. Raised by `frontEnd`. Safe. -/
  | answerNotAwaited
  /-- A front-end answer outside the request's alphabet (R77, R80 to R86). Raised by `frontEnd`.
  Safe. -/
  | answerOutsideAlphabet
  deriving DecidableEq, Repr

/-! ### The state -/

/-- The state of the block (R20), with the model's own fields last. -/
structure State where
  /-- The OPEN parameters the block reads: inputs of the model (R20), fixed in every run. -/
  params : Config.Params
  /-- The host-visible and hidden registers commands and operand writes change. -/
  regs : Regs
  /-- `cur`, the last accepted command word: also the `CMD` readback (R24) and, in its low byte,
  `STATUS.LASTOP` (R25). -/
  cur : Word
  /-- `opsnap`, the operand registers at accept (R54, R119). -/
  opsnap : Operands
  /-- `phase`, shown as `STATUS.BUSY` (R54). -/
  phase : Phase
  /-- `STATUS.DONE` (R25). -/
  done : Bool
  /-- `STATUS.RESULT` (R26). -/
  result : Result
  /-- `STATUS.CLASS` (R27). -/
  errClass : ErrClass
  /-- `STATUS.CAUSE` (R28). -/
  cause : Cause
  /-- `STATUS.OVERRUN`, sticky (R29). -/
  overrun : Bool
  /-- `STATUS.WBUSY`, sticky (R29). -/
  wbusy : Bool
  /-- `IRQ.EN` (R30). -/
  irqEn : Bool
  /-- `IRQ.PEND` (R30). -/
  irqPend : Bool
  /-- `pc_seq` (R54). -/
  pcSeq : Pos
  /-- `pollcnt` (R54). -/
  pollcnt : Nat
  /-- `fe_wait` (R54). -/
  feWait : Bool
  /-- `fe_discard` (R54). -/
  feDiscard : Bool
  /-- The front-end request that comes next, and once `fe_wait` is 1 the one that is out (R77). -/
  feReq : Option FeReq
  /-- The answer available to the next block step (R120). -/
  feAns : Option FeAns
  /-- The working copies of the running command (R55), none before its first writes. -/
  work : Option Regs
  /-- The received frame a command keeps across its reply-CRC exchange (R177, R195, R121). -/
  rxHeld : List Byte
  /-- The model's own: the value the last host read returned (R64), none before the first. -/
  hostData : Option Word
  /-- The model's own: the environment's coming moves, the first one next (R116). -/
  env : List Event
  deriving DecidableEq, Repr

/-! ### Reset -/

/-- All BME shadows 0 (R35, R235). -/
def BmeShadow.reset : BmeShadow :=
  { t1 := 0, t2 := 0, t3 := 0, p1 := 0, p2 := 0, p3 := 0, p4 := 0, p5 := 0, p6 := 0, p7 := 0,
    p8 := 0, p9 := 0, h1 := 0, h2 := 0, h3 := 0, hpk0 := 0, hpk1 := 0, hpk2 := 0, h6 := 0 }

/-- The BME active set all 0 (R37, R235). -/
def BmeCal.reset : BmeCal :=
  { t1 := 0, t2 := 0, t3 := 0, p1 := 0, p2 := 0, p3 := 0, p4 := 0, p5 := 0, p6 := 0, p7 := 0,
    p8 := 0, p9 := 0, h1 := 0, h2 := 0, h3 := 0, h4 := 0, h5 := 0, h6 := 0 }

/-- Seven MS coefficients, all 0 (R42, R43, R235). -/
def MsCal.reset : MsCal := { c0 := 0, c1 := 0, c2 := 0, c3 := 0, c4 := 0, c5 := 0, c6 := 0 }

/-- The operand registers at reset: all 0 (R21, R235). -/
def Operands.reset : Operands :=
  { bmeShadow := .reset, rawT := 0, rawP := 0, rawH := 0, msShadow := .reset, d1 := 0, d2 := 0,
    len := 0, authUid := 0, keyLo := 0, keyHi := 0, dbuf := Vector.replicate 32 0 }

/-- The BME280 registers at reset: all 0 (R235). -/
def BmeUnit.reset : BmeUnit :=
  { cal := .reset, valid := false, wmask := 0, tfineValid := false, tfine := 0, tOut := 0,
    pOut := 0, hOut := 0 }

/-- The MS5637 registers at reset: all 0 (R235). -/
def MsUnit.reset : MsUnit :=
  { cal := .reset, valid := false, wmask := 0, temp := 0, press := 0 }

/-- The sequencer's registers at reset: `SESSION = 0` and all buffers 0 (R235). -/
def SeqUnit.reset : SeqUnit :=
  { state := .idle, uidValid := false, cryptoHeld := false, level := 0, ct := false, uid := [],
    atqa := 0, sak := 0, cl1 := Vector.replicate 5 0, cl2 := Vector.replicate 5 0,
    cl3 := Vector.replicate 5 0 }

/-- All registers at reset (R235). -/
def Regs.reset : Regs :=
  { ops := .reset, bme := .reset, ms := .reset, crcRes := 0, seq := .reset }

/-- The block after power-on reset (R59, R235): idle, every register at its reset value, the
parameters at the defaults of R9 and the model's own fields empty (notes/assumptions/2.md to
5.md). -/
def State.reset : State :=
  { params := .default, regs := .reset, cur := 0, opsnap := .reset, phase := .idle, done := false,
    result := .ok, errClass := .none, cause := .none, overrun := false, wbusy := false,
    irqEn := false, irqPend := false, pcSeq := .start, pollcnt := 0, feWait := false,
    feDiscard := false, feReq := none, feAns := none, work := none, rxHeld := [],
    hostData := none, env := [] }

end Sys2Proof.Machine
end

