-- ==== Sys2Proof/Machine/Ops.lean ====
section
/-! DEFINITION. The shared operations: exact integer shifts and division (00_scope.md R12), byte
packing (20_memory.md R67), and the lifecycle of a command: accept (40_common.md R117), the
preparation of a front-end request (R120), and finish (R122).

The block raises no trap: finish is its only trap entry (60_exceptions.md R218), written once here
as `State.finish`, and its return is the host's next accept (R219), `State.accept` beside it. -/

namespace Sys2Proof.Machine

/-- The outcome of a step or of a command's meaning. -/
abbrev Out := Host.Outcome State Fault Refusal

/-! ### Exact integer arithmetic (R11, R12) -/

/-- `a << k`, that is `a * 2^k` (R12). -/
def shl (a : Int) (k : Nat) : Int := a * 2 ^ k

/-- `a >> k`, that is `floor(a / 2^k)` (R12): the divisor is positive, where Lean's `/` on `Int` is
the floor. -/
def shr (a : Int) (k : Nat) : Int := a / 2 ^ k

/-- `a div b`, rounding toward negative infinity for either sign of `b` (R12). -/
def floorDiv (a b : Int) : Int := Int.fdiv a b

/-- `fit32(v)`: `-2^31 ≤ v < 2^31` (41_bme280.md R138). -/
def fit32 (v : Int) : Bool := decide (-2 ^ 31 ≤ v ∧ v < 2 ^ 31)

/-- The 32-bit two's-complement register value of an integer (R41, R45). -/
def toWord (v : Int) : Word := BitVec.ofInt 32 v

/-! ### Bytes (R14, R67, R68) -/

/-- Byte `j` of a 32-bit register: bits `[8j+7:8j]` (R67). -/
def wordByte (w : Word) (j : Nat) : Byte := w.extractLsb' (8 * j) 8

/-- The four bytes of a 32-bit register in index order (R67). -/
def wordBytes (w : Word) : List Byte := [wordByte w 0, wordByte w 1, wordByte w 2, wordByte w 3]

/-- The 32-bit register that holds bytes `b0` to `b3` in index order (R67). -/
def packWord (b0 b1 b2 b3 : Byte) : Word := (b3 ++ b2) ++ (b1 ++ b0)

/-- The 16-bit value `lo | hi << 8` (R67, R82). -/
def pair16 (lo hi : Byte) : BitVec 16 := hi ++ lo

/-- `le16(v)`: the low byte, then the high byte (R14, R68). -/
def le16 (v : BitVec 16) : List Byte := [v.extractLsb' 0 8, v.extractLsb' 8 8]

/-- Byte `i` of a received sequence. Every use follows a length check, so the default is never
read. -/
def byteAt (bs : List Byte) (i : Nat) : Byte := bs.getD i 0

/-! ### The lifecycle of a command -/

/-- The working copies of the running command: the registers as they stand until its first write
(R55, R121). -/
def State.working (s : State) : Regs := s.work.getD s.regs

/-- End an internal computation at the next front-end primitive: keep the working copies `w`, move
`pc_seq` there, and have request `r` come next (R54, R120). -/
def State.ask (s : State) (w : Regs) (x : Stage) (p : Prim) (r : FeReq) : State :=
  { s with work := some w, pcSeq := .at x p, feReq := some r, feAns := none }

/-- Set `pollcnt` (R87). -/
def State.setPoll (s : State) (n : Nat) : State := { s with pollcnt := n }

/-- Keep a received frame across the reply-CRC exchange (R121). -/
def State.holdRx (s : State) (bs : List Byte) : State := { s with rxHeld := bs }

/-- `finish(RESULT, CLASS, CAUSE)`: publish the working copies `w`, write STATUS, set DONE and
IRQ.PEND, and return the engine to idle, all in one step (R122, R218). -/
def State.finish (s : State) (w : Regs) (r : Result) (c : ErrClass) (k : Cause) : State :=
  { s with
    regs := w, result := r, errClass := c, cause := k, done := true, irqPend := true
    phase := .idle, feWait := false, pollcnt := 0
    feReq := none, feAns := none, work := none, rxHeld := [] }

/-- Accept of command word `w` while idle: `cur` and with it the CMD readback and LASTOP take `w`,
BUSY sets, DONE clears, the operand registers are sampled, and `pc_seq` is at the start. RESULT,
CLASS and CAUSE keep their values (R117). -/
def State.accept (s : State) (w : Word) : State :=
  { s with cur := w, done := false, opsnap := s.regs.ops, phase := .exec, pcSeq := .start }

/-- A `CMD` write while a command runs: only OVERRUN is set (R118). -/
def State.overrunCmd (s : State) : State := { s with overrun := true }

/-- `ok()` (R16). -/
def succeed (s : State) (w : Regs) : Out := .next (s.finish w .ok .none .none)

/-- `fail(CLASS, CAUSE)` (R16): the writes in `w` are published with the failure (R122). -/
def failWith (s : State) (w : Regs) (c : ErrClass) (k : Cause) : Out :=
  .next (s.finish w .error c k)

/-! ### Reset (70_reset_and_hazards.md R234 to R237) -/

/-- The power-on reset: every item at its power-on value (R59, R235). The parameters are inputs
(R20), and the environment's coming moves and the value last read lie outside the block. -/
def State.powerOnReset (s : State) : State :=
  { State.reset with params := s.params, hostData := s.hostData, env := s.env }

/-- The soft reset of R236: as power-on, but `SESSION.CRYPTO_HELD` keeps its value and an answer
still to arrive is marked to be discarded. -/
def State.softReset (s : State) : State :=
  { s.powerOnReset with
    regs := { Regs.reset with seq := { SeqUnit.reset with cryptoHeld := s.regs.seq.cryptoHeld } }
    feDiscard := s.feWait || s.feDiscard }

end Sys2Proof.Machine
end

