-- ==== Sys2Proof/Machine/Flags.lean ====
section
/-! DEFINITION. The flag and status fields: their codes, the words STATUS, SESSION, CALSTAT,
BME_WMASK and IRQ show (10_state.md R25 to R34), the interrupt output (R30), the session helpers
`tag_gone` and `session_abort` (44_iso14443_anticoll.md R185), and the ends of a command that use
them (R186). -/

namespace Sys2Proof.Machine

/-! ### Field codes -/

/-- The code of `STATUS.RESULT` (R26). -/
def Result.code : Result → BitVec 2
  | .ok => 0
  | .notag => 1
  | .error => 2

/-- The code of `STATUS.CLASS` (R27). -/
def ErrClass.code : ErrClass → BitVec 3
  | .none => 0
  | .transport => 1
  | .protocol => 2
  | .data => 3
  | .command => 4

/-- The code of `STATUS.CAUSE` (R214). -/
def Cause.code : Cause → Byte
  | .none => 0x00
  | .cmdUnknownOpcode => 0x01
  | .cmdReservedBits => 0x02
  | .cmdBadField => 0x03
  | .seqState => 0x04
  | .seqCryptoHeld => 0x05
  | .calNotLoaded => 0x10
  | .calIncomplete => 0x11
  | .tfineStale => 0x12
  | .divZeroGuard => 0x13
  | .resultRange => 0x14
  | .badLength => 0x15
  | .feBus => 0x20
  | .respLength => 0x21
  | .crcPollTimeout => 0x30
  | .fePollTimeout => 0x31
  | .feFault => 0x32
  | .bitCount => 0x33
  | .bccMismatch => 0x34
  | .crcMismatch => 0x35
  | .nak => 0x36
  | .authFailed => 0x37
  | .cascadeDepth => 0x38
  | .noResponse => 0x40

/-- The RESULT column of the cause table (R214). -/
def Cause.result : Cause → Result
  | .none => .ok
  | .noResponse => .notag
  | .cmdUnknownOpcode | .cmdReservedBits | .cmdBadField | .seqState | .seqCryptoHeld => .error
  | .calNotLoaded | .calIncomplete | .tfineStale | .divZeroGuard | .resultRange => .error
  | .badLength | .feBus | .respLength | .crcPollTimeout | .fePollTimeout | .feFault => .error
  | .bitCount | .bccMismatch | .crcMismatch | .nak | .authFailed | .cascadeDepth => .error

/-- The CLASS column of the cause table (R214). -/
def Cause.errClass : Cause → ErrClass
  | .none | .noResponse => .none
  | .cmdUnknownOpcode | .cmdReservedBits | .cmdBadField | .seqState | .seqCryptoHeld => .command
  | .calNotLoaded | .calIncomplete | .tfineStale | .divZeroGuard | .resultRange => .data
  | .badLength => .data
  | .feBus | .respLength => .transport
  | .crcPollTimeout | .fePollTimeout | .feFault | .bitCount | .bccMismatch => .protocol
  | .crcMismatch | .nak | .authFailed | .cascadeDepth => .protocol

/-- The code of `SESSION.STATE` (R32). -/
def SessState.code : SessState → BitVec 3
  | .idle => 0
  | .requested => 1
  | .anticoll => 2
  | .selected => 3
  | .authenticated => 4

/-- The cause an illegal verdict reports (R101). -/
def verdictCause : Verdict → Cause
  | .unknownOpcode => .cmdUnknownOpcode
  | .reservedBits => .cmdReservedBits
  | .badField => .cmdBadField

/-! ### The words the status registers show -/

/-- `STATUS.BUSY` (R25, R54). -/
def State.busy (s : State) : Bool := s.phase == .exec

/-- `STATUS.LASTOP`: the opcode field of the last accepted word (R25). -/
def State.lastOp (s : State) : Byte := wordOp s.cur

/-- `STATUS`, bits 31 down to 0 (R25). -/
def State.statusWord (s : State) : Word :=
  0#6 ++ BitVec.ofBool s.wbusy ++ BitVec.ofBool s.overrun ++ s.lastOp ++ s.cause.code ++ 0#1 ++
    s.errClass.code ++ s.result.code ++ BitVec.ofBool s.done ++ BitVec.ofBool s.busy

/-- `IRQ`, bits 31 down to 0 (R30). -/
def State.irqWord (s : State) : Word := 0#30 ++ BitVec.ofBool s.irqPend ++ BitVec.ofBool s.irqEn

/-- The interrupt output `irq = EN & PEND`, a level (R30, 60_exceptions.md R221). -/
def State.irq (s : State) : Bool := s.irqEn && s.irqPend

/-- `SESSION.UID_LEN` (R31). -/
def SeqUnit.uidLen (q : SeqUnit) : Nat := q.uid.length

/-- `SESSION`, bits 31 down to 0 (R31). -/
def SeqUnit.sessionWord (q : SeqUnit) : Word :=
  0#20 ++ BitVec.ofNat 4 q.uidLen ++ BitVec.ofBool q.ct ++ q.level ++ BitVec.ofBool q.cryptoHeld ++
    BitVec.ofBool q.uidValid ++ q.state.code

/-- `CALSTAT`, bits 31 down to 0 (R33). -/
def Regs.calstatWord (r : Regs) : Word :=
  0#17 ++ r.ms.wmask ++ 0#5 ++ BitVec.ofBool r.bme.tfineValid ++ BitVec.ofBool r.ms.valid ++
    BitVec.ofBool r.bme.valid

/-- `BME_WMASK`, bits 31 down to 0 (R34). -/
def Regs.bmeWmaskWord (r : Regs) : Word := 0#13 ++ r.bme.wmask

/-- A write mask with bit `i` set (R36). -/
def maskWith {n : Nat} (m : BitVec n) (i : Nat) : BitVec n := m ||| BitVec.twoPow n i

/-! ### Session helpers (R185) -/

/-- `tag_gone()`: the session ends and the UID is invalidated (R185). -/
def SeqUnit.tagGone (q : SeqUnit) : SeqUnit :=
  { q with state := .idle, level := 0, ct := false, uidValid := false, uid := [] }

/-- `session_abort()`: the session ends and a complete UID stays readable (R185). -/
def SeqUnit.sessionAbort (q : SeqUnit) : SeqUnit :=
  { q with state := .idle, level := 0, ct := false }

/-- `tag_gone()` on the working copies. -/
def Regs.tagGone (r : Regs) : Regs := { r with seq := r.seq.tagGone }

/-- `session_abort()` on the working copies. -/
def Regs.sessionAbort (r : Regs) : Regs := { r with seq := r.seq.sessionAbort }

/-- Replace the sequencer's registers in the working copies. -/
def Regs.setSeq (r : Regs) (q : SeqUnit) : Regs := { r with seq := q }

/-! ### Ends of a command -/

/-- `notag()` of a SEQ command: `tag_gone()` first (R16, R91, R186). -/
def notag (s : State) (w : Regs) : Out := .next (s.finish w.tagGone .notag .none .noResponse)

/-- A failure of a SEQ command that has passed its preconditions: `session_abort()` first (R186). -/
def seqFail (s : State) (w : Regs) (c : ErrClass) (k : Cause) : Out :=
  failWith s w.sessionAbort c k

/-- A refusal: an error finish that changes nothing but STATUS and IRQ.PEND (R128). -/
def refuse (s : State) (c : ErrClass) (k : Cause) : Out := failWith s s.regs c k

/-- The finish of an illegal command word with the failure of R101 (R102). -/
def illegal (s : State) (v : Verdict) : Out := refuse s .command (verdictCause v)

end Sys2Proof.Machine
end

