-- ==== Sys2Proof/Machine/FrontEnd.lean ====
section
/-! DEFINITION. The front-end port (20_memory.md R77 to R93): the answer alphabets, the request and
answer steps, and the three helper sequences `crc16`, `trx` and `auth` of R90 to R92, each as a call
(which prepares its first request) and a step (which takes one answer). A helper's step gets the
command's own failure and continuation as arguments, so R186 is applied by the command. -/

namespace Sys2Proof.Machine

/-! ### Alphabets (R79 to R86) -/

/-- Whether an answer belongs to a request's alphabet. Every request may be answered `BUSFAIL`
(R79); an `RX` answer carries `ceil(bits / 8)` bytes (R85). -/
def FeReq.accepts : FeReq → FeAns → Bool
  | _, .busfail => true
  | .crcStart _, .ack => true
  | .crcPoll, .done => true
  | .crcPoll, .notdone => true
  | .crcRead, .res _ _ => true
  | .trxStart _ _, .ack => true
  | .trxPoll, .done => true
  | .trxPoll, .noresp => true
  | .trxPoll, .fault => true
  | .trxPoll, .notdone => true
  | .trxRead, .rx bytes bits => bytes.length == (bits + 7) / 8
  | .authStart _, .ack => true
  | .authPoll, .done => true
  | .authPoll, .noresp => true
  | .authPoll, .fault => true
  | .authPoll, .notdone => true
  | .cryptoStatus, .on => true
  | .cryptoStatus, .off => true
  | .cryptoOff, .ack => true
  | _, _ => false

/-! ### The request and answer steps (R116, R120, R236) -/

/-- The direct write of `SESSION.CRYPTO_HELD` by AUTH's first request: the register itself, and the
working copy that will be published (R55, 45_iso14443_auth_rw.md R191). -/
def Regs.holdCrypto (r : Regs) : Regs := { r with seq := { r.seq with cryptoHeld := true } }

/-- The block makes request `r`: `fe_wait` sets (R120). `fe.auth_start` is made by AUTH alone and is
its first request, so it carries the direct write of R191. -/
def State.issue (s : State) (r : FeReq) : State :=
  match r with
  | .authStart _ =>
    { s with feWait := true, regs := s.regs.holdCrypto, work := s.work.map Regs.holdCrypto }
  | _ => { s with feWait := true }

/-- A front-end step: the answer is discarded if one is due to be (R236), taken if it is in the
alphabet of the request that is out (R77, R120), and no step otherwise (R116). -/
def frontEnd (a : FeAns) (s : State) : Out :=
  if s.feDiscard then .next { s with feDiscard := false }
  else
    match s.feWait, s.feReq with
    | true, some r =>
      if r.accepts a then .next { s with feWait := false, feReq := none, feAns := some a }
      else .refused .answerOutsideAlphabet
    | _, _ => .refused .answerNotAwaited

/-! ### `crc16` (R90) -/

/-- Call `crc16(data)`: `fe.crc_start(data)` comes next. -/
def crcCall (s : State) (w : Regs) (x : Stage) (data : List Byte) : Out :=
  .next (s.ask w x .start (.crcStart data))

/-- Take answer `a` at primitive `p` of `crc16` (R90), with the poll bound of R87. -/
def crcStep (s : State) (w : Regs) (x : Stage) (p : Prim) (a : FeAns)
    (fail : ErrClass → Cause → Out) (ret : BitVec 16 → Out) : Out :=
  match p, a with
  | _, .busfail => fail .transport .feBus
  | .start, .ack => .next ((s.setPoll 1).ask w x .poll .crcPoll)
  | .poll, .done => .next (s.ask w x .read .crcRead)
  | .poll, .notdone =>
    if s.pollcnt = Config.crcPollMax then fail .protocol .crcPollTimeout
    else .next ((s.setPoll (s.pollcnt + 1)).ask w x .poll .crcPoll)
  | .read, .res lo hi => ret (pair16 lo hi)
  | _, _ => .fault .answerOutsideAlphabet

/-! ### `trx` (R91) -/

/-- Call `trx(tx, lastbits)`: `fe.trx_start` comes next. -/
def trxCall (s : State) (w : Regs) (x : Stage) (tx : List Byte) (lastbits : BitVec 3) : Out :=
  .next (s.ask w x .start (.trxStart tx lastbits))

/-- Take answer `a` at primitive `p` of `trx` (R91), with the poll bound of R87. -/
def trxStep (s : State) (w : Regs) (x : Stage) (p : Prim) (a : FeAns)
    (ret : List Byte → Nat → Out) : Out :=
  match p, a with
  | _, .busfail => seqFail s w .transport .feBus
  | .start, .ack => .next ((s.setPoll 1).ask w x .poll .trxPoll)
  | .poll, .noresp => notag s w
  | .poll, .fault => seqFail s w .protocol .feFault
  | .poll, .notdone =>
    if s.pollcnt = s.params.fePollMax then seqFail s w .protocol .fePollTimeout
    else .next ((s.setPoll (s.pollcnt + 1)).ask w x .poll .trxPoll)
  | .poll, .done => .next (s.ask w x .read .trxRead)
  | .read, .rx bytes bits => ret bytes bits
  | _, _ => .fault .answerOutsideAlphabet

/-! ### `auth` (R92) -/

/-- Call `auth(payload)`: `fe.auth_start(payload)` comes next. -/
def authCall (s : State) (w : Regs) (payload : List Byte) : Out :=
  .next (s.ask w .auth .start (.authStart payload))

/-- Take answer `a` at primitive `p` of `auth` (R92); its third primitive is `fe.crypto_status`. -/
def authStep (s : State) (w : Regs) (p : Prim) (a : FeAns) (ret : Out) : Out :=
  match p, a with
  | _, .busfail => seqFail s w .transport .feBus
  | .start, .ack => .next ((s.setPoll 1).ask w .auth .poll .authPoll)
  | .poll, .noresp => notag s w
  | .poll, .fault => seqFail s w .protocol .feFault
  | .poll, .notdone =>
    if s.pollcnt = s.params.fePollMax then seqFail s w .protocol .fePollTimeout
    else .next ((s.setPoll (s.pollcnt + 1)).ask w .auth .poll .authPoll)
  | .poll, .done => .next (s.ask w .auth .read .cryptoStatus)
  | .read, .off => seqFail s w .protocol .authFailed
  | .read, .on => ret
  | _, _ => .fault .answerOutsideAlphabet

/-- A command's block step by its position: `first` at the start, and `next` at a primitive whose
answer is available (R120). -/
def resume (s : State) (first : Out) (next : Stage → Prim → FeAns → Out) : Out :=
  match s.pcSeq with
  | .start => first
  | .at x p =>
    match s.feAns with
    | some a => next x p a
    | none => .fault .answerMissing

/-! ### The named assumption on the front-end's CRC (R88, R89)

The block computes no CRC (R88); these serve claims about a conforming front-end. -/

/-- One byte of `CRC_A` (R89). -/
def crcAByte (crc : BitVec 16) (b : Byte) : BitVec 16 :=
  let b := b ^^^ crc.extractLsb' 0 8
  let b := b ^^^ (b <<< 4)
  let b := b.setWidth 16
  (crc >>> 8) ^^^ (b <<< 8) ^^^ (b <<< 3) ^^^ (b >>> 4)

/-- `CRC_A(data)`, the default of `P_FE_CRC_FN` (R88, R89). -/
def crcA (data : List Byte) : BitVec 16 := data.foldl crcAByte 0x6363

end Sys2Proof.Machine
end

