-- ==== Sys2Proof/Machine/Operands.lean ====
section
/-! DEFINITION. The operand forms: the coefficient registers with their stored widths, signs and
mask indices (10_state.md R35, R36, R42), the unpacking of H4 and H5 (30_encoding.md R105), the
commit of a whole set (41_bme280.md R132, 42_ms5637.md R151), the data buffer (10_state.md R51), and
the frames and payloads commands send (30_encoding.md R106). -/

namespace Sys2Proof.Machine

/-! ### BME280 shadow registers (R35, R36) -/

/-- The names of the 19 BME280 shadow registers, in the order of R35. -/
inductive BmeCoef where
  | t1 | t2 | t3 | p1 | p2 | p3 | p4 | p5 | p6 | p7 | p8 | p9
  | h1 | h2 | h3 | hpk0 | hpk1 | hpk2 | h6
  deriving DecidableEq, Repr

/-- The mask index of a shadow register (R35). -/
def BmeCoef.index : BmeCoef → Nat
  | .t1 => 0
  | .t2 => 1
  | .t3 => 2
  | .p1 => 3
  | .p2 => 4
  | .p3 => 5
  | .p4 => 6
  | .p5 => 7
  | .p6 => 8
  | .p7 => 9
  | .p8 => 10
  | .p9 => 11
  | .h1 => 12
  | .h2 => 13
  | .h3 => 14
  | .hpk0 => 15
  | .hpk1 => 16
  | .hpk2 => 17
  | .h6 => 18

/-- What a host read of a shadow register returns: zero-extended for the unsigned ones and the raw
bytes, sign-extended for the signed ones (R35, R36). -/
def BmeShadow.read (b : BmeShadow) : BmeCoef → Word
  | .t1 => b.t1.setWidth 32
  | .t2 => b.t2.signExtend 32
  | .t3 => b.t3.signExtend 32
  | .p1 => b.p1.setWidth 32
  | .p2 => b.p2.signExtend 32
  | .p3 => b.p3.signExtend 32
  | .p4 => b.p4.signExtend 32
  | .p5 => b.p5.signExtend 32
  | .p6 => b.p6.signExtend 32
  | .p7 => b.p7.signExtend 32
  | .p8 => b.p8.signExtend 32
  | .p9 => b.p9.signExtend 32
  | .h1 => b.h1.setWidth 32
  | .h2 => b.h2.signExtend 32
  | .h3 => b.h3.setWidth 32
  | .hpk0 => b.hpk0.setWidth 32
  | .hpk1 => b.hpk1.setWidth 32
  | .hpk2 => b.hpk2.setWidth 32
  | .h6 => b.h6.signExtend 32

/-- A write to a shadow register stores the low bits of its width (R35, R36). -/
def BmeShadow.write (b : BmeShadow) (v : Word) : BmeCoef → BmeShadow
  | .t1 => { b with t1 := v.setWidth 16 }
  | .t2 => { b with t2 := v.setWidth 16 }
  | .t3 => { b with t3 := v.setWidth 16 }
  | .p1 => { b with p1 := v.setWidth 16 }
  | .p2 => { b with p2 := v.setWidth 16 }
  | .p3 => { b with p3 := v.setWidth 16 }
  | .p4 => { b with p4 := v.setWidth 16 }
  | .p5 => { b with p5 := v.setWidth 16 }
  | .p6 => { b with p6 := v.setWidth 16 }
  | .p7 => { b with p7 := v.setWidth 16 }
  | .p8 => { b with p8 := v.setWidth 16 }
  | .p9 => { b with p9 := v.setWidth 16 }
  | .h1 => { b with h1 := v.setWidth 8 }
  | .h2 => { b with h2 := v.setWidth 16 }
  | .h3 => { b with h3 := v.setWidth 8 }
  | .hpk0 => { b with hpk0 := v.setWidth 8 }
  | .hpk1 => { b with hpk1 := v.setWidth 8 }
  | .hpk2 => { b with hpk2 := v.setWidth 8 }
  | .h6 => { b with h6 := v.setWidth 8 }

/-! ### The BME280 active set (R37, R105, R132) -/

/-- H4: `sext_12({HPK0[7:0], HPK1[3:0]})`, kept at its 12 bits (R105). -/
def unpackH4 (b : BmeShadow) : BitVec 12 := b.hpk0 ++ b.hpk1.extractLsb' 0 4

/-- H5: `sext_12({HPK2[7:0], HPK1[7:4]})`, kept at its 12 bits (R105). -/
def unpackH5 (b : BmeShadow) : BitVec 12 := b.hpk2 ++ b.hpk1.extractLsb' 4 4

/-- The active set that BME_CAL_COMMIT makes of the shadows, all fields at once (R132). -/
def BmeShadow.commit (b : BmeShadow) : BmeCal :=
  { t1 := b.t1, t2 := b.t2, t3 := b.t3, p1 := b.p1, p2 := b.p2, p3 := b.p3, p4 := b.p4
    p5 := b.p5, p6 := b.p6, p7 := b.p7, p8 := b.p8, p9 := b.p9, h1 := b.h1, h2 := b.h2
    h3 := b.h3, h4 := unpackH4 b, h5 := unpackH5 b, h6 := b.h6 }

/-- The full write mask of the 19 BME shadows, `0x7FFFF` (R132). -/
def bmeMaskFull : BitVec 19 := 0x7FFFF

/-! ### MS5637 shadow registers (R42, R43, R151) -/

/-- Coefficient `Ci` of a set (R42). -/
def MsCal.get (m : MsCal) (i : Fin 7) : BitVec 16 :=
  match i with
  | 0 => m.c0
  | 1 => m.c1
  | 2 => m.c2
  | 3 => m.c3
  | 4 => m.c4
  | 5 => m.c5
  | 6 => m.c6

/-- A set with coefficient `Ci` replaced (R42). -/
def MsCal.set (m : MsCal) (i : Fin 7) (v : BitVec 16) : MsCal :=
  match i with
  | 0 => { m with c0 := v }
  | 1 => { m with c1 := v }
  | 2 => { m with c2 := v }
  | 3 => { m with c3 := v }
  | 4 => { m with c4 := v }
  | 5 => { m with c5 := v }
  | 6 => { m with c6 := v }

/-- The full write mask of the seven MS shadows, `0x7F` (R151). -/
def msMaskFull : BitVec 7 := 0x7F

/-! ### The data buffer (R51) -/

/-- `dbuf[i]`, 0 past the buffer (never read there: every command checks its length first). -/
def dbufAt (d : Vector Byte 32) (i : Nat) : Byte := d[i]?.getD 0

/-- `dbuf[0..n-1]` as a byte sequence (R14). -/
def dbufTake (d : Vector Byte 32) (n : Nat) : List Byte := d.toList.take n

/-- Register `DBUFw`: bytes `4w` to `4w+3` in index order (R51). -/
def dbufWord (d : Vector Byte 32) (w : Fin 8) : Word :=
  packWord (dbufAt d (4 * w)) (dbufAt d (4 * w + 1)) (dbufAt d (4 * w + 2)) (dbufAt d (4 * w + 3))

/-- The buffer with register `DBUFw` written (R51). -/
def dbufSetWord (d : Vector Byte 32) (w : Fin 8) (v : Word) : Vector Byte 32 :=
  Vector.ofFn fun i => if i.val / 4 = w.val then wordByte v (i.val % 4) else d[i]

/-- The buffer with `dbuf[0..15]` replaced by the first 16 bytes of `bs` (45_iso14443_auth_rw.md
R195). -/
def dbufLoad16 (d : Vector Byte 32) (bs : List Byte) : Vector Byte 32 :=
  Vector.ofFn fun i => if i.val < 16 then byteAt bs i.val else d[i]

/-! ### Frame bytes (R106) -/

/-- `REQB(M)`: REQA 0x26 or WUPA 0x52 (R106). -/
def reqByte : ReqMode → Byte
  | .reqA => 0x26
  | .wupA => 0x52

/-- `SEL(L)`: 0x93, 0x95, 0x97 for L = 1, 2, 3 (R106). L = 0 is illegal (R101), so no frame of it is
ever built. -/
def selByte (l : BitVec 2) : Byte := if l = 1 then 0x93 else if l = 2 then 0x95 else 0x97

/-- NVB of an anticollision frame (R106). -/
def nvbAnticoll : Byte := 0x20

/-- NVB of a SELECT frame (R106). -/
def nvbSelect : Byte := 0x70

/-- The cascade tag byte CT (R19, R174). -/
def cascadeTag : Byte := 0x88

/-- The AUTH command byte `0x60 + K` (R106, R188). -/
def keyByte : KeyType → Byte
  | .keyA => 0x60
  | .keyB => 0x61

/-- The READ command byte (R106). -/
def readByte : Byte := 0x30

/-- The Classic WRITE command byte (R106). -/
def writeClassicByte : Byte := 0xA0

/-- The NTAG WRITE command byte (R106). -/
def writeNtagByte : Byte := 0xA2

/-- The six key bytes `key[0..5]` of `KEY_LO` and `KEY_HI` (R50). -/
def Operands.key (o : Operands) : List Byte :=
  wordBytes o.keyLo ++ [o.keyHi.extractLsb' 0 8, o.keyHi.extractLsb' 8 8]

/-- The 12-byte AUTH payload: command, block address, key, UID (R188, R189). -/
def authPayload (k : KeyType) (a : Byte) (o : Operands) : List Byte :=
  [keyByte k, a] ++ o.key ++ wordBytes o.authUid

/-! ### Cascade buffers (R53) -/

/-- `clbuf[L]` for L = 1, 2, 3 (R53). L = 0 is illegal (R101) and never read. -/
def SeqUnit.cl (q : SeqUnit) (l : BitVec 2) : Vector Byte 5 :=
  if l = 1 then q.cl1 else if l = 2 then q.cl2 else q.cl3

/-- Write `clbuf[L]` (R53). -/
def SeqUnit.setCl (q : SeqUnit) (l : BitVec 2) (b : Vector Byte 5) : SeqUnit :=
  if l = 1 then { q with cl1 := b } else if l = 2 then { q with cl2 := b } else { q with cl3 := b }

/-- The five bytes of a received anticollision reply (R174). -/
def five (bs : List Byte) : Vector Byte 5 := Vector.ofFn fun i => byteAt bs i.val

/-- The SELECT frame before its CRC, 7 bytes: `[SEL(L), 0x70] ++ clbuf[L]` (R177). -/
def selectFrame (q : SeqUnit) (l : BitVec 2) : List Byte :=
  [selByte l, nvbSelect] ++ (q.cl l).toList

/-- `ack(rx, bits)`: a 4-bit reply whose low nibble is 0xA (R197, R198). -/
def isAck (rx : List Byte) (bits : Nat) : Bool :=
  bits == 4 && (byteAt rx 0).extractLsb' 0 4 == 0xA

end Sys2Proof.Machine
end

