-- ==== Sys2Proof/Machine/Anticoll.lean ====
section
/-! DEFINITION. REQUEST, ANTICOLL, SELECT and SCAN (44_iso14443_anticoll.md R171 to R186). Each of
`do_request`, `do_anticoll` and `do_select` is written once, as its call and its continuation after
an answer, and shared by the single commands and SCAN. -/

namespace Sys2Proof.Machine

/-! ### `do_request` (R171) -/

/-- The clearing writes that precede the REQUEST exchange (R171). -/
def SeqUnit.clearForRequest (q : SeqUnit) : SeqUnit :=
  { q with
    uid := [], uidValid := false, level := 0, ct := false, sak := 0
    cl1 := Vector.replicate 5 0, cl2 := Vector.replicate 5 0, cl3 := Vector.replicate 5 0 }

/-- Start `do_request(M)`: the clearing writes, then the 7-bit short frame (R171, R172). -/
def requestCall (s : State) (w : Regs) (m : ReqMode) : Out :=
  trxCall s (w.setSeq w.seq.clearForRequest) .request [reqByte m] 7

/-- The reply of `do_request`: exactly 16 bits of ATQA (R171). -/
def requestReply (s : State) (w : Regs) (rx : List Byte) (bits : Nat) (ret : Regs → Out) : Out :=
  if bits = 16 then
    ret (w.setSeq { w.seq with atqa := pair16 (byteAt rx 0) (byteAt rx 1), state := .requested })
  else seqFail s w .protocol .bitCount

/-- Take an answer inside `do_request` (R171). -/
def requestStep (s : State) (w : Regs) (p : Prim) (a : FeAns) (ret : Regs → Out) : Out :=
  trxStep s w .request p a fun rx bits => requestReply s w rx bits ret

/-! ### `do_anticoll` (R174) -/

/-- The clearing writes of a level-1 anticollision (R174). -/
def SeqUnit.clearForAnticoll (q : SeqUnit) (l : BitVec 2) : SeqUnit :=
  if l = 1 then { q with uid := [], uidValid := false } else q

/-- Start `do_anticoll(L)` (R174). -/
def anticollCall (s : State) (w : Regs) (l : BitVec 2) : Out :=
  trxCall s (w.setSeq (w.seq.clearForAnticoll l)) (.anticoll l) [selByte l, nvbAnticoll] 0

/-- The check byte of an anticollision reply: the XOR of its first four bytes (R174). -/
def bccOf (rx : List Byte) : Byte := byteAt rx 0 ^^^ byteAt rx 1 ^^^ byteAt rx 2 ^^^ byteAt rx 3

/-- The writes of a good anticollision reply at level `l` (R174, R175): the level's buffer, the
selected UID bytes, CT, UID_VALID, LEVEL and STATE. -/
def SeqUnit.takeReply (q : SeqUnit) (l : BitVec 2) (rx : List Byte) : SeqUnit :=
  let q := { q.setCl l (five rx) with level := l, state := .anticoll }
  if byteAt rx 0 = cascadeTag then
    { q with uid := q.uid ++ [byteAt rx 1, byteAt rx 2, byteAt rx 3], ct := true }
  else
    { q with
      uid := q.uid ++ [byteAt rx 0, byteAt rx 1, byteAt rx 2, byteAt rx 3], ct := false
      uidValid := true }

/-- The reply of `do_anticoll(L)`, its checks in the order of R174. -/
def anticollReply (s : State) (w : Regs) (l : BitVec 2) (rx : List Byte) (bits : Nat)
    (ret : Regs → Out) : Out :=
  if bits ≠ 40 then seqFail s w .transport .respLength
  else if byteAt rx 4 ≠ bccOf rx then seqFail s w .protocol .bccMismatch
  else if byteAt rx 0 = cascadeTag ∧ l = 3 then seqFail s w .protocol .cascadeDepth
  else ret (w.setSeq (w.seq.takeReply l rx))

/-- Take an answer inside `do_anticoll(L)` (R174). -/
def anticollStep (s : State) (w : Regs) (l : BitVec 2) (p : Prim) (a : FeAns)
    (ret : Regs → Out) : Out :=
  trxStep s w (.anticoll l) p a fun rx bits => anticollReply s w l rx bits ret

/-! ### `do_select` (R177) -/

/-- Start `do_select(L)`: the CRC of the frame comes first (R177). -/
def selectCall (s : State) (w : Regs) (l : BitVec 2) : Out :=
  crcCall s w (.selectCrc l) (selectFrame w.seq l)

/-- The writes of a good SELECT reply (R177). -/
def SeqUnit.takeSak (q : SeqUnit) (sak : Byte) : SeqUnit := { q with sak := sak, state := .selected }

/-- The reply of `do_select(L)`: exactly 24 bits, then the optional CRC check (R177, R178). -/
def selectReply (s : State) (w : Regs) (l : BitVec 2) (rx : List Byte) (bits : Nat)
    (ret : Regs → Out) : Out :=
  if bits ≠ 24 then seqFail s w .protocol .bitCount
  else if s.params.checkRxCrc then crcCall (s.holdRx rx) w (.selectChk l) [byteAt rx 0]
  else ret (w.setSeq (w.seq.takeSak (byteAt rx 0)))

/-- Take an answer at the CRC of the SELECT frame: the frame goes out with its CRC (R177). -/
def selectCrcStep (s : State) (w : Regs) (l : BitVec 2) (p : Prim) (a : FeAns) : Out :=
  crcStep s w (.selectCrc l) p a (seqFail s w) fun c =>
    trxCall s w (.selectTrx l) (selectFrame w.seq l ++ le16 c) 0

/-- Take an answer in the SELECT exchange (R177). -/
def selectTrxStep (s : State) (w : Regs) (l : BitVec 2) (p : Prim) (a : FeAns)
    (ret : Regs → Out) : Out :=
  trxStep s w (.selectTrx l) p a fun rx bits => selectReply s w l rx bits ret

/-- Take an answer at the check of the SELECT reply's CRC (R177, `P_CHECK_RX_CRC = 1`). -/
def selectChkStep (s : State) (w : Regs) (l : BitVec 2) (p : Prim) (a : FeAns)
    (ret : Regs → Out) : Out :=
  crcStep s w (.selectChk l) p a (seqFail s w) fun c =>
    if c = pair16 (byteAt s.rxHeld 1) (byteAt s.rxHeld 2) then
      ret (w.setSeq (w.seq.takeSak (byteAt s.rxHeld 0)))
    else seqFail s w .protocol .crcMismatch

/-! ### Preconditions (R174, R177) -/

/-- The session precondition of ANTICOLL L (R174). -/
def anticollReady (q : SeqUnit) (l : BitVec 2) : Bool :=
  if l = 1 then q.state == .requested
  else q.state == .selected && q.level == l - 1 && q.ct

/-- The session precondition of SELECT L (R177). -/
def selectReady (q : SeqUnit) (l : BitVec 2) : Bool := q.state == .anticoll && q.level == l

/-! ### The commands -/

/-- `REQUEST M` (R171). -/
def execRequest (m : ReqMode) (s : State) : Out :=
  resume s
    (if s.regs.seq.cryptoHeld then refuse s .command .seqCryptoHeld else requestCall s s.regs m)
    fun x p a =>
      match x with
      | .request => requestStep s s.working p a (succeed s)
      | _ => .fault .positionNotOfCommand

/-- `ANTICOLL L` (R174); a word with L = 0 never decodes to it and reports CMD_BAD_FIELD (R101). -/
def execAnticoll (l : BitVec 2) (s : State) : Out :=
  resume s
    (if l = 0 then illegal s .badField
     else if s.regs.seq.cryptoHeld then refuse s .command .seqCryptoHeld
     else if anticollReady s.regs.seq l then anticollCall s s.regs l
     else refuse s .command .seqState)
    fun x p a =>
      match x with
      | .anticoll k => anticollStep s s.working k p a (succeed s)
      | _ => .fault .positionNotOfCommand

/-- `SELECT L` (R177); a word with L = 0 never decodes to it and reports CMD_BAD_FIELD (R101). -/
def execSelect (l : BitVec 2) (s : State) : Out :=
  resume s
    (if l = 0 then illegal s .badField
     else if s.regs.seq.cryptoHeld then refuse s .command .seqCryptoHeld
     else if selectReady s.regs.seq l then selectCall s s.regs l
     else refuse s .command .seqState)
    fun x p a =>
      match x with
      | .selectCrc k => selectCrcStep s s.working k p a
      | .selectTrx k => selectTrxStep s s.working k p a (succeed s)
      | .selectChk k => selectChkStep s s.working k p a (succeed s)
      | _ => .fault .positionNotOfCommand

/-- `SCAN M`: REQUEST, then ANTICOLL and, while the cascade goes on, SELECT at each level; it stops
before the final SELECT (R180). -/
def execScan (m : ReqMode) (s : State) : Out :=
  resume s
    (if s.regs.seq.cryptoHeld then refuse s .command .seqCryptoHeld else requestCall s s.regs m)
    fun x p a =>
      match x with
      | .request => requestStep s s.working p a fun w => anticollCall s w 1
      | .anticoll l => anticollStep s s.working l p a fun w =>
          if w.seq.ct then selectCall s w l else succeed s w
      | .selectCrc l => selectCrcStep s s.working l p a
      | .selectTrx l => selectTrxStep s s.working l p a fun w => anticollCall s w (l + 1)
      | .selectChk l => selectChkStep s s.working l p a fun w => anticollCall s w (l + 1)
      | _ => .fault .positionNotOfCommand

end Sys2Proof.Machine
end

