-- ==== Sys2Proof/Machine/AuthRw.lean ====
section
/-! DEFINITION. AUTH, STOPCRYPTO, READ, WRITE_CLASSIC and WRITE_NTAG (45_iso14443_auth_rw.md R187 to
R201). -/

namespace Sys2Proof.Machine

/-! ### Preconditions (R201) -/

/-- The session precondition of AUTH (R188). -/
def authReady (q : SeqUnit) : Bool := q.state == .selected && q.uidValid

/-- The session precondition of the NTAG accesses: SELECTED or AUTHENTICATED with a valid UID (R195,
R199). -/
def ntagReady (q : SeqUnit) : Bool := (q.state == .selected || q.state == .authenticated) && q.uidValid

/-- The session precondition of the Classic accesses (R195, R197). -/
def classicReady (q : SeqUnit) : Bool := q.state == .authenticated

/-- The session precondition of READ by its card kind (R195). -/
def readReady (c : CardKind) (q : SeqUnit) : Bool :=
  match c with
  | .classic => classicReady q
  | .ntag => ntagReady q

/-! ### AUTH and STOPCRYPTO -/

/-- `STATE <- AUTHENTICATED` (R188). -/
def SeqUnit.authenticate (q : SeqUnit) : SeqUnit := { q with state := .authenticated }

/-- `AUTH K, A` (R188). The direct write of CRYPTO_HELD goes with its first request (R191,
`State.issue`). -/
def execAuth (k : KeyType) (a : Byte) (s : State) : Out :=
  resume s
    (if s.regs.seq.cryptoHeld then refuse s .command .seqCryptoHeld
     else if authReady s.regs.seq then authCall s s.regs (authPayload k a s.opsnap)
     else refuse s .command .seqState)
    fun x p ans =>
      match x with
      | .auth =>
        authStep s s.working p ans (succeed s (s.working.setSeq s.working.seq.authenticate))
      | _ => .fault .positionNotOfCommand

/-- The writes of STOPCRYPTO, which precede its exchange (R193). -/
def SeqUnit.release (q : SeqUnit) : SeqUnit :=
  { q with cryptoHeld := false, state := .idle, level := 0, ct := false }

/-- `STOPCRYPTO` (R193). Its writes are to working copies: only AUTH writes CRYPTO_HELD directly
(R55). -/
def execStopCrypto (s : State) : Out :=
  resume s
    (.next (s.ask (s.regs.setSeq s.regs.seq.release) .cryptoOff .start .cryptoOff))
    fun x p a =>
      match x, p, a with
      | .cryptoOff, .start, .ack => succeed s s.working
      | .cryptoOff, .start, .busfail => failWith s s.working .transport .feBus
      | .cryptoOff, .start, _ => .fault .answerOutsideAlphabet
      | _, _, _ => .fault .positionNotOfCommand

/-! ### READ (R195, R196) -/

/-- `dbuf[0..15] <- rx[0..15]` in the working copies (R195). -/
def Regs.loadDbuf (r : Regs) (rx : List Byte) : Regs :=
  { r with ops := { r.ops with dbuf := dbufLoad16 r.ops.dbuf rx } }

/-- The READ frame before its CRC (R195). -/
def readFrame (a : Byte) : List Byte := [readByte, a]

/-- The reply of READ: 144 bits, a 4-bit reply being the tag's NAK, then the optional CRC check
(R195). -/
def readReply (s : State) (w : Regs) (rx : List Byte) (bits : Nat) : Out :=
  if bits = 4 then seqFail s w .protocol .nak
  else if bits ≠ 144 then seqFail s w .transport .respLength
  else if s.params.checkRxCrc then crcCall (s.holdRx rx) w .readChk (rx.take 16)
  else succeed s (w.loadDbuf rx)

/-- `READ C, A` (R195). -/
def execRead (c : CardKind) (a : Byte) (s : State) : Out :=
  resume s
    (if readReady c s.regs.seq then crcCall s s.regs .readCrc (readFrame a)
     else refuse s .command .seqState)
    fun x p ans =>
      match x with
      | .readCrc => crcStep s s.working .readCrc p ans (seqFail s s.working) fun v =>
          trxCall s s.working .readTrx (readFrame a ++ le16 v) 0
      | .readTrx => trxStep s s.working .readTrx p ans fun rx bits => readReply s s.working rx bits
      | .readChk => crcStep s s.working .readChk p ans (seqFail s s.working) fun v =>
          if v = pair16 (byteAt s.rxHeld 16) (byteAt s.rxHeld 17) then
            succeed s (s.working.loadDbuf s.rxHeld)
          else seqFail s s.working .protocol .crcMismatch
      | _ => .fault .positionNotOfCommand

/-! ### The writes (R197 to R200) -/

/-- The first WRITE_CLASSIC frame before its CRC (R197). -/
def writeClassicFrame (a : Byte) : List Byte := [writeClassicByte, a]

/-- The 16 data bytes of WRITE_CLASSIC (R197). -/
def writeClassicData (o : Operands) : List Byte := dbufTake o.dbuf 16

/-- `WRITE_CLASSIC A`: the command frame, its ACK, the data frame, its ACK (R197). -/
def execWriteClassic (a : Byte) (s : State) : Out :=
  resume s
    (if classicReady s.regs.seq then crcCall s s.regs .writeCrc (writeClassicFrame a)
     else refuse s .command .seqState)
    fun x p ans =>
      match x with
      | .writeCrc => crcStep s s.working .writeCrc p ans (seqFail s s.working) fun v =>
          trxCall s s.working .writeTrx (writeClassicFrame a ++ le16 v) 0
      | .writeTrx => trxStep s s.working .writeTrx p ans fun rx bits =>
          if isAck rx bits then crcCall s s.working .dataCrc (writeClassicData s.opsnap)
          else seqFail s s.working .protocol .nak
      | .dataCrc => crcStep s s.working .dataCrc p ans (seqFail s s.working) fun v =>
          trxCall s s.working .dataTrx (writeClassicData s.opsnap ++ le16 v) 0
      | .dataTrx => trxStep s s.working .dataTrx p ans fun rx bits =>
          if isAck rx bits then succeed s s.working else seqFail s s.working .protocol .nak
      | _ => .fault .positionNotOfCommand

/-- The WRITE_NTAG frame before its CRC, 6 bytes (R199). -/
def writeNtagFrame (a : Byte) (o : Operands) : List Byte := [writeNtagByte, a] ++ dbufTake o.dbuf 4

/-- `WRITE_NTAG A` (R199). -/
def execWriteNtag (a : Byte) (s : State) : Out :=
  resume s
    (if ntagReady s.regs.seq then crcCall s s.regs .writeCrc (writeNtagFrame a s.opsnap)
     else refuse s .command .seqState)
    fun x p ans =>
      match x with
      | .writeCrc => crcStep s s.working .writeCrc p ans (seqFail s s.working) fun v =>
          trxCall s s.working .writeTrx (writeNtagFrame a s.opsnap ++ le16 v) 0
      | .writeTrx => trxStep s s.working .writeTrx p ans fun rx bits =>
          if isAck rx bits then succeed s s.working else seqFail s s.working .protocol .nak
      | _ => .fault .positionNotOfCommand

end Sys2Proof.Machine
end

