-- ==== Sys2Proof/Machine/Bme280.lean ====
section
/-! DEFINITION. The BME280 commands (41_bme280.md R132 to R147). All arithmetic is exact over `Int`
with floor shifts (00_scope.md R11, R12). A CMP command makes no front-end request and finishes at
its first block step (40_common.md R120), so it reads the live hidden and RO registers (R119), its
operands from the snapshot taken at accept, and has no position to look at. -/

namespace Sys2Proof.Machine

/-! ### The compensation chains -/

/-- `bme_temp(adcT, T1, T2, T3) -> (T, tFine)` (R134, R144). -/
def bmeTemp (adcT t1 t2 t3 : Int) : Int × Int :=
  let var1 := shr ((shr adcT 3 - shl t1 1) * t2) 11
  let var2 := shr (shr ((shr adcT 4 - t1) * (shr adcT 4 - t1)) 12 * t3) 14
  let tFine := var1 + var2
  (shr (tFine * 5 + 128) 8, tFine)

/-- The pressure coefficients P1 to P9 as integers (R132). -/
structure PressCoef where
  p1 : Int
  p2 : Int
  p3 : Int
  p4 : Int
  p5 : Int
  p6 : Int
  p7 : Int
  p8 : Int
  p9 : Int
  deriving DecidableEq, Repr

/-- The divisor term `v1` of `bme_press`, the value its guard tests (R136). -/
def bmePressDivisor (tFine : Int) (c : PressCoef) : Int :=
  let v1 := shr tFine 1 - 64000
  let v3 := shr (c.p3 * shr (shr v1 2 * shr v1 2) 13) 3
  let v4 := shr (c.p2 * v1) 1
  let v1 := shr (v3 + v4) 18
  shr ((32768 + v1) * c.p1) 15

/-- The offset term `v2` of `bme_press` (R136). -/
def bmePressOffset (tFine : Int) (c : PressCoef) : Int :=
  let v1 := shr tFine 1 - 64000
  let v2 := shr (shr v1 2 * shr v1 2) 11 * c.p6
  let v2 := v2 + shl (v1 * c.p5) 1
  shr v2 2 + shl c.p4 16

/-- The second-order P7 to P9 correction, the last three lines of `bme_press` (R136). -/
def bmePressCorrect (p : Int) (c : PressCoef) : Int :=
  let w1 := shr (c.p9 * shr (shr p 3 * shr p 3) 13) 12
  let w2 := shr (shr p 2 * c.p8) 13
  p + shr (w1 + w2 + c.p7) 4

/-- `bme_press(adcP, tFine, P1..P9) -> p | GUARD`, with `none` for GUARD (R136). -/
def bmePress (adcP tFine : Int) (c : PressCoef) : Option Int :=
  let v1 := bmePressDivisor tFine c
  if v1 = 0 then none
  else
    let p := ((1048576 - adcP) - shr (bmePressOffset tFine c) 12) * 3125
    let p := if 0 ≤ p ∧ p < 2 ^ 31 then floorDiv (shl p 1) v1 else shl (floorDiv p v1) 1
    some (bmePressCorrect p c)

/-- The humidity coefficients H1 to H6 as integers (R132). -/
structure HumCoef where
  h1 : Int
  h2 : Int
  h3 : Int
  h4 : Int
  h5 : Int
  h6 : Int
  deriving DecidableEq, Repr

/-- The humidity value before the clamp (R139). -/
def bmeHumRaw (adcH tFine : Int) (c : HumCoef) : Int :=
  let x := tFine - 76800
  let a := shr ((shl adcH 14 - shl c.h4 20 - c.h5 * x) + 16384) 15
  let b := shr ((shr (shr (x * c.h6) 10 * (shr (x * c.h3) 11 + 32768)) 10 + 2097152) * c.h2
    + 8192) 14
  let x := a * b
  x - shr (shr (shr x 15 * shr x 15) 7 * c.h1) 4

/-- The clamp to `[0, 419430400]` (R139). -/
def humClamp (x : Int) : Int :=
  let x := if x < 0 then 0 else x
  if 419430400 < x then 419430400 else x

/-- `bme_hum(adcH, tFine, H1..H6) -> h` (R139). -/
def bmeHum (adcH tFine : Int) (c : HumCoef) : Int := shr (humClamp (bmeHumRaw adcH tFine c)) 12

/-! ### The active set as integers (R37, R132) -/

/-- P1 to P9 of an active set: P1 unsigned, the others signed (R35, R132). -/
def BmeCal.press (c : BmeCal) : PressCoef :=
  { p1 := c.p1.toNat, p2 := c.p2.toInt, p3 := c.p3.toInt, p4 := c.p4.toInt, p5 := c.p5.toInt
    p6 := c.p6.toInt, p7 := c.p7.toInt, p8 := c.p8.toInt, p9 := c.p9.toInt }

/-- H1 to H6 of an active set: H1 and H3 unsigned, the others signed (R35, R105, R132). -/
def BmeCal.hum (c : BmeCal) : HumCoef :=
  { h1 := c.h1.toNat, h2 := c.h2.toInt, h3 := c.h3.toNat, h4 := c.h4.toInt, h5 := c.h5.toInt
    h6 := c.h6.toInt }

/-- `bme_temp` on a raw sample and an active set: T1 unsigned, T2 and T3 signed (R35, R135). -/
def BmeCal.tempOf (c : BmeCal) (rawT : BitVec 20) : Int × Int :=
  bmeTemp rawT.toNat c.t1.toNat c.t2.toInt c.t3.toInt

/-- `bme_press` on a raw sample, a `tFine` and an active set (R137). -/
def BmeCal.pressOf (c : BmeCal) (rawP : BitVec 20) (tFine : Int) : Option Int :=
  bmePress rawP.toNat tFine c.press

/-- `bme_hum` on a raw sample, a `tFine` and an active set (R140). -/
def BmeCal.humOf (c : BmeCal) (rawH : BitVec 16) (tFine : Int) : Int :=
  bmeHum rawH.toNat tFine c.hum

/-! ### The register writes of the steps -/

/-- The writes of a successful temperature step: TFINE, T_OUT, TFINE_VALID (R135). -/
def BmeUnit.putTemp (b : BmeUnit) (r : Int × Int) : BmeUnit :=
  { b with tfine := toWord r.2, tOut := toWord r.1, tfineValid := true }

/-- Replace the BME280 registers in the working copies. -/
def Regs.setBme (r : Regs) (b : BmeUnit) : Regs := { r with bme := b }

/-- The end of a pressure step on working copies `w` (R137, R142): the guard and the range failure
publish `P_OUT = 0` with the error (R138, R146). -/
def pressFinish (s : State) (w : Regs) (r : Option Int) : Out :=
  match r with
  | none => failWith s (w.setBme { w.bme with pOut := 0 }) .data .divZeroGuard
  | some p =>
    if fit32 p then succeed s (w.setBme { w.bme with pOut := toWord p })
    else failWith s (w.setBme { w.bme with pOut := 0 }) .data .resultRange

/-! ### The commands -/

/-- `BME_CAL_COMMIT` (R132). -/
def execBmeCalCommit (s : State) : Out :=
  if s.regs.bme.wmask = bmeMaskFull then
    succeed s (s.regs.setBme { s.regs.bme with
      cal := s.opsnap.bmeShadow.commit, wmask := 0, valid := true, tfineValid := false })
  else refuse s .data .calIncomplete

/-- `BME_CAL_CLEAR` (R133). -/
def execBmeCalClear (s : State) : Out :=
  succeed s (s.regs.setBme { s.regs.bme with valid := false, tfineValid := false, wmask := 0 })

/-- `BME_T` (R135). -/
def execBmeT (s : State) : Out :=
  if s.regs.bme.valid then
    succeed s (s.regs.setBme (s.regs.bme.putTemp (s.regs.bme.cal.tempOf s.opsnap.rawT)))
  else refuse s .data .calNotLoaded

/-- `BME_P` (R137). -/
def execBmeP (s : State) : Out :=
  if s.regs.bme.valid then
    if s.regs.bme.tfineValid then
      pressFinish s s.regs (s.regs.bme.cal.pressOf s.opsnap.rawP s.regs.bme.tfine.toInt)
    else refuse s .data .tfineStale
  else refuse s .data .calNotLoaded

/-- `BME_H` (R140). -/
def execBmeH (s : State) : Out :=
  if s.regs.bme.valid then
    if s.regs.bme.tfineValid then
      succeed s (s.regs.setBme { s.regs.bme with
        hOut := toWord (s.regs.bme.cal.humOf s.opsnap.rawH s.regs.bme.tfine.toInt) })
    else refuse s .data .tfineStale
  else refuse s .data .calNotLoaded

/-- The registers after the temperature and humidity parts of BME_ALL (R142). -/
def bmeAllRegs (s : State) : Regs :=
  let t := s.regs.bme.cal.tempOf s.opsnap.rawT
  s.regs.setBme { s.regs.bme.putTemp t with
    hOut := toWord (s.regs.bme.cal.humOf s.opsnap.rawH t.2) }

/-- `BME_ALL`: temperature, humidity, then pressure, so that a pressure failure still publishes the
other results (R142). -/
def execBmeAll (s : State) : Out :=
  if s.regs.bme.valid then
    pressFinish s (bmeAllRegs s)
      (s.regs.bme.cal.pressOf s.opsnap.rawP (s.regs.bme.cal.tempOf s.opsnap.rawT).2)
  else refuse s .data .calNotLoaded

end Sys2Proof.Machine
end

