-- ==== Sys2Proof/Machine/Common.lean ====
section
/-! DEFINITION. NOP (40_common.md R130). -/

namespace Sys2Proof.Machine

/-- `NOP`: finishes OK and changes nothing else (R130). -/
def execNop (s : State) : Out := succeed s s.regs

end Sys2Proof.Machine
end

