-- ==== Sys2Proof/Machine/Crc16.lean ====
section
/-! DEFINITION. The CRC-16 commands (43_crc16.md R163 to R169). They run the helper `crc16` of the
front-end and never touch the session (R167). -/

namespace Sys2Proof.Machine

/-- `CRC_RES <- c` in the working copies (R164, R166). -/
def Regs.setCrcRes (r : Regs) (c : BitVec 16) : Regs := { r with crcRes := c }

/-- The 16-bit value of the last two of `n` buffer bytes, low byte first (R166). -/
def receivedCrc (o : Operands) (n : Nat) : BitVec 16 :=
  pair16 (dbufAt o.dbuf (n - 2)) (dbufAt o.dbuf (n - 1))

/-- `CRC_CALC` (R164). -/
def execCrcCalc (s : State) : Out :=
  resume s
    (if 32 < s.opsnap.len.toNat then refuse s .data .badLength
     else crcCall s s.regs .crc (dbufTake s.opsnap.dbuf s.opsnap.len.toNat))
    fun x p a =>
      match x with
      | .crc => crcStep s s.working .crc p a (failWith s s.working) fun c =>
          succeed s (s.working.setCrcRes c)
      | _ => .fault .positionNotOfCommand

/-- `CRC_CHECK` (R166): the computed CRC is published before the compare. -/
def execCrcCheck (s : State) : Out :=
  resume s
    (if s.opsnap.len.toNat < 3 ∨ 32 < s.opsnap.len.toNat then refuse s .data .badLength
     else crcCall s s.regs .crc (dbufTake s.opsnap.dbuf (s.opsnap.len.toNat - 2)))
    fun x p a =>
      match x with
      | .crc => crcStep s s.working .crc p a (failWith s s.working) fun c =>
          if c = receivedCrc s.opsnap s.opsnap.len.toNat then succeed s (s.working.setCrcRes c)
          else failWith s (s.working.setCrcRes c) .protocol .crcMismatch
      | _ => .fault .positionNotOfCommand

end Sys2Proof.Machine
end

