-- ==== Sys2Proof/Machine/Ms5637.lean ====
section
/-! DEFINITION. The MS5637 commands (42_ms5637.md R151 to R159), exact over `Int` with floor shifts
(00_scope.md R11, R12). -/

namespace Sys2Proof.Machine

/-- The coefficients C1 to C6 as integers; C0 takes part in no formula (R42, R153). -/
structure MsCoef where
  c1 : Int
  c2 : Int
  c3 : Int
  c4 : Int
  c5 : Int
  c6 : Int
  deriving DecidableEq, Repr

/-- The four values `ms_comp` carries: `dT`, `TEMP`, `OFF`, `SENS` (R154). -/
structure MsVals where
  dT : Int
  temp : Int
  off : Int
  sens : Int
  deriving DecidableEq, Repr

/-- The first order (R154). -/
def msFirst (d2 : Int) (c : MsCoef) : MsVals :=
  let dT := d2 - c.c5 * 256
  { dT := dT
    temp := 2000 + shr (dT * c.c6) 23
    off := c.c2 * 2 ^ 17 + shr (c.c4 * dT) 6
    sens := c.c1 * 2 ^ 16 + shr (c.c3 * dT) 7 }

/-- `T2` (R155). -/
def msT2 (h : Config.HighT2) (v : MsVals) : Int :=
  if v.temp < 2000 then shr (3 * v.dT * v.dT) 33
  else
    match h with
    | .datasheet => shr (5 * v.dT * v.dT) 38
    | .zero => 0

/-- `OFF2` (R155). -/
def msOff2 (v : MsVals) : Int :=
  if v.temp < 2000 then
    let o := shr (61 * (v.temp - 2000) ^ 2) 4
    if v.temp < -1500 then o + 17 * (v.temp + 1500) ^ 2 else o
  else 0

/-- `SENS2` (R155). -/
def msSens2 (v : MsVals) : Int :=
  if v.temp < 2000 then
    let e := shr (29 * (v.temp - 2000) ^ 2) 4
    if v.temp < -1500 then e + 9 * (v.temp + 1500) ^ 2 else e
  else 0

/-- The second order (R155). -/
def msSecond (h : Config.HighT2) (v : MsVals) : MsVals :=
  { v with temp := v.temp - msT2 h v, off := v.off - msOff2 v, sens := v.sens - msSens2 v }

/-- The final pressure (R156). -/
def msPress (d1 : Int) (v : MsVals) : Int := shr (shr (d1 * v.sens) 21 - v.off) 15

/-- `ms_comp(D1, D2, C1..C6) -> (TEMP, P)` (R154 to R156). -/
def msComp (h : Config.HighT2) (d1 d2 : Int) (c : MsCoef) : Int × Int :=
  let v := msSecond h (msFirst d2 c)
  (v.temp, msPress d1 v)

/-- C1 to C6 of an active set as unsigned integers (R43). -/
def MsCal.coef (m : MsCal) : MsCoef :=
  { c1 := m.c1.toNat, c2 := m.c2.toNat, c3 := m.c3.toNat, c4 := m.c4.toNat, c5 := m.c5.toNat
    c6 := m.c6.toNat }

/-- `ms_comp` on the raw registers and an active set (R153). -/
def MsCal.compOf (m : MsCal) (h : Config.HighT2) (d1 d2 : BitVec 24) : Int × Int :=
  msComp h d1.toNat d2.toNat m.coef

/-- Replace the MS5637 registers in the working copies. -/
def Regs.setMs (r : Regs) (m : MsUnit) : Regs := { r with ms := m }

/-- `MS_CAL_COMMIT` (R151). -/
def execMsCalCommit (s : State) : Out :=
  if s.regs.ms.wmask = msMaskFull then
    succeed s (s.regs.setMs { s.regs.ms with cal := s.opsnap.msShadow, wmask := 0, valid := true })
  else refuse s .data .calIncomplete

/-- `MS_CAL_CLEAR` (R152). -/
def execMsCalClear (s : State) : Out :=
  succeed s (s.regs.setMs { s.regs.ms with valid := false, wmask := 0 })

/-- `MS_COMP` (R153), with the range branch that R157 says is never taken. -/
def execMsComp (s : State) : Out :=
  if s.regs.ms.valid then
    let r := s.regs.ms.cal.compOf s.params.msHighT2 s.opsnap.d1 s.opsnap.d2
    if fit32 r.1 && fit32 r.2 then
      succeed s (s.regs.setMs { s.regs.ms with temp := toWord r.1, press := toWord r.2 })
    else failWith s (s.regs.setMs { s.regs.ms with temp := 0, press := 0 }) .data .resultRange
  else refuse s .data .calNotLoaded

end Sys2Proof.Machine
end

