-- ==== Sys2Proof/Machine/Dispatch.lean ====
section
/-! DEFINITION. The meaning of each command, one arm per constructor of `Instr` (40_common.md R126):
`exec i s` is one internal computation of the running command `i` at its position `s.pcSeq`, up to
its next front-end request or to its finish (R120). -/

namespace Sys2Proof.Machine

def exec (i : Instr) (s : State) : Host.Outcome State Fault Refusal :=
  match i with
  | .nop => Sys2Proof.Machine.execNop s
  | .bmeCalCommit => Sys2Proof.Machine.execBmeCalCommit s
  | .bmeCalClear => Sys2Proof.Machine.execBmeCalClear s
  | .bmeT => Sys2Proof.Machine.execBmeT s
  | .bmeP => Sys2Proof.Machine.execBmeP s
  | .bmeH => Sys2Proof.Machine.execBmeH s
  | .bmeAll => Sys2Proof.Machine.execBmeAll s
  | .msCalCommit => Sys2Proof.Machine.execMsCalCommit s
  | .msCalClear => Sys2Proof.Machine.execMsCalClear s
  | .msComp => Sys2Proof.Machine.execMsComp s
  | .crcCalc => Sys2Proof.Machine.execCrcCalc s
  | .crcCheck => Sys2Proof.Machine.execCrcCheck s
  | .request m => Sys2Proof.Machine.execRequest m s
  | .anticoll l => Sys2Proof.Machine.execAnticoll l s
  | .select l => Sys2Proof.Machine.execSelect l s
  | .scan m => Sys2Proof.Machine.execScan m s
  | .auth k a => Sys2Proof.Machine.execAuth k a s
  | .stopCrypto => Sys2Proof.Machine.execStopCrypto s
  | .read c a => Sys2Proof.Machine.execRead c a s
  | .writeClassic a => Sys2Proof.Machine.execWriteClassic a s
  | .writeNtag a => Sys2Proof.Machine.execWriteNtag a s

end Sys2Proof.Machine
end

