-- ==== Sys2Proof/Machine/Engine.lean ====
section
/-! DEFINITION. The block engine's step (40_common.md R116, R120): it reads the accepted word `cur`,
decodes it (30_encoding.md R101, whose check is the command's first block step, R117), and runs one
internal computation of the command, or makes the request that comes next. -/

namespace Sys2Proof.Machine

/-- Whether a block step is enabled (R116). -/
def State.engineEnabled (s : State) : Bool := s.phase == .exec && !s.feWait

/-- One internal computation of the accepted word: an illegal word finishes with its verdict (R102),
a legal one runs its meaning. -/
def runWord (w : Word) (s : State) : Out :=
  match decode w with
  | .ok i => exec i s
  | .error v => illegal s v

/-- The block engine's turn. A request that comes next is made, but not while an answer to an aborted
command is still to be discarded (R54, R236); with none, the command computes on. A turn in which no
block step is enabled changes nothing (R116). -/
def engineStep (s : State) : Out :=
  if s.engineEnabled then
    match s.feReq with
    | some r => if s.feDiscard then .next s else .next (s.issue r)
    | none => runWord s.cur s
  else .next s

end Sys2Proof.Machine
end

