-- ==== Sys2Proof/Machine/HostPort.lean ====
section
/-! DEFINITION. The host port: the register map (10_state.md R21), host reads and writes
(20_memory.md R63 to R66), the operand-register lock while busy (R57), and the reset write of CTRL
(R23). -/

namespace Sys2Proof.Machine

/-- The host registers of R21, each under its own name. -/
inductive Reg where
  | id | ctrl | cmd | status | irq | session | calstat | bmeWmask
  | bme (k : BmeCoef)
  | h4 | h5 | rawT | rawP | rawH | tfine | tOut | pOut | hOut
  | ms (i : Fin 7)
  | d1 | d2 | msTemp | msP
  | len | crcRes | atqaSak | authUid | keyLo | keyHi
  | dbuf (w : Fin 8)
  | uidW (w : Fin 3)
  | clW0 (l : BitVec 2)
  | clW1 (l : BitVec 2)
  deriving DecidableEq, Repr

/-! ### The register map (R21, R70) -/

/-- Control and status (0x000 to 0x01F). -/
def regMapControl : List (Nat × Reg) :=
  [
    (0x000, .id), (0x004, .ctrl), (0x008, .cmd), (0x00C, .status), (0x010, .irq),
    (0x014, .session), (0x018, .calstat), (0x01C, .bmeWmask) ]

/-- BME280 (0x040 to 0x0BF). -/
def regMapBme : List (Nat × Reg) :=
  [
    (0x040, .bme .t1), (0x044, .bme .t2), (0x048, .bme .t3), (0x04C, .bme .p1), (0x050, .bme .p2),
    (0x054, .bme .p3), (0x058, .bme .p4), (0x05C, .bme .p5), (0x060, .bme .p6), (0x064, .bme .p7),
    (0x068, .bme .p8), (0x06C, .bme .p9), (0x070, .bme .h1), (0x074, .bme .h2), (0x078, .bme .h3),
    (0x07C, .bme .hpk0), (0x080, .bme .hpk1), (0x084, .bme .hpk2), (0x088, .bme .h6), (0x08C, .h4),
    (0x090, .h5), (0x0A0, .rawT), (0x0A4, .rawP), (0x0A8, .rawH), (0x0B0, .tfine),
    (0x0B4, .tOut), (0x0B8, .pOut), (0x0BC, .hOut) ]

/-- MS5637 (0x0C0 to 0x0EF). -/
def regMapMs : List (Nat × Reg) :=
  [
    (0x0C0, .ms 0), (0x0C4, .ms 1), (0x0C8, .ms 2), (0x0CC, .ms 3), (0x0D0, .ms 4),
    (0x0D4, .ms 5), (0x0D8, .ms 6), (0x0E0, .d1), (0x0E4, .d2), (0x0E8, .msTemp),
    (0x0EC, .msP) ]

/-- CRC and sequencer (0x100 to 0x167). -/
def regMapSeq : List (Nat × Reg) :=
  [
    (0x100, .len), (0x104, .crcRes), (0x108, .atqaSak), (0x10C, .authUid), (0x110, .keyLo),
    (0x114, .keyHi), (0x120, .dbuf 0), (0x124, .dbuf 1), (0x128, .dbuf 2), (0x12C, .dbuf 3),
    (0x130, .dbuf 4), (0x134, .dbuf 5), (0x138, .dbuf 6), (0x13C, .dbuf 7), (0x140, .uidW 0),
    (0x144, .uidW 1), (0x148, .uidW 2), (0x150, .clW0 1), (0x154, .clW1 1), (0x158, .clW0 2),
    (0x15C, .clW1 2), (0x160, .clW0 3), (0x164, .clW1 3) ]

/-- The register map of R21: byte offset and register. -/
def regMap : List (Nat × Reg) := regMapControl ++ regMapBme ++ regMapMs ++ regMapSeq

/-- The register at a byte offset, none where the offset is reserved (R58). -/
def Reg.ofOffset (off : Nat) : Option Reg := (regMap.find? fun e => e.1 == off).map (·.2)

/-! ### Reads (R64) -/

/-- The identification word (R22). -/
def idWord : Word := 0x50430700

/-- `UID_Ww`: UID bytes `4w` to `4w+3`, those at and past UID_LEN 0, and bytes 10 and 11 of UID_W2
0 (R52). -/
def SeqUnit.uidWord (q : SeqUnit) (w : Fin 3) : Word :=
  let b := fun i => byteAt (q.uid.take 10) i
  packWord (b (4 * w)) (b (4 * w + 1)) (b (4 * w + 2)) (b (4 * w + 3))

/-- `CLn_W0`: bytes 0 to 3 of the level's reply (R53). -/
def SeqUnit.clW0 (q : SeqUnit) (l : BitVec 2) : Word :=
  packWord (q.cl l)[0] (q.cl l)[1] (q.cl l)[2] (q.cl l)[3]

/-- `CLn_W1`: byte 4 of the level's reply, its BCC, in bits [7:0] (R53). -/
def SeqUnit.clW1 (q : SeqUnit) (l : BitVec 2) : Word := (q.cl l)[4].setWidth 32

/-- What a host read of a register returns (R21 to R53): the published values, never the working
copies (R55, R64). -/
def State.readReg (s : State) : Reg → Word
  | .id => idWord
  | .ctrl => 0
  | .cmd => s.cur
  | .status => s.statusWord
  | .irq => s.irqWord
  | .session => s.regs.seq.sessionWord
  | .calstat => s.regs.calstatWord
  | .bmeWmask => s.regs.bmeWmaskWord
  | .bme k => s.regs.ops.bmeShadow.read k
  | .h4 => s.regs.bme.cal.h4.signExtend 32
  | .h5 => s.regs.bme.cal.h5.signExtend 32
  | .rawT => s.regs.ops.rawT.setWidth 32
  | .rawP => s.regs.ops.rawP.setWidth 32
  | .rawH => s.regs.ops.rawH.setWidth 32
  | .tfine => s.regs.bme.tfine
  | .tOut => s.regs.bme.tOut
  | .pOut => s.regs.bme.pOut
  | .hOut => s.regs.bme.hOut
  | .ms i => (s.regs.ops.msShadow.get i).setWidth 32
  | .d1 => s.regs.ops.d1.setWidth 32
  | .d2 => s.regs.ops.d2.setWidth 32
  | .msTemp => s.regs.ms.temp
  | .msP => s.regs.ms.press
  | .len => s.regs.ops.len.setWidth 32
  | .crcRes => s.regs.crcRes.setWidth 32
  | .atqaSak => 0#8 ++ s.regs.seq.sak ++ s.regs.seq.atqa
  | .authUid => s.regs.ops.authUid
  | .keyLo => 0
  | .keyHi => 0
  | .dbuf w => dbufWord s.regs.ops.dbuf w
  | .uidW w => s.regs.seq.uidWord w
  | .clW0 l => s.regs.seq.clW0 l
  | .clW1 l => s.regs.seq.clW1 l

/-- What a host read at an offset returns; reserved offsets read 0 (R58, R64). -/
def State.window (s : State) (off : Nat) : Word :=
  match Reg.ofOffset off with
  | some r => s.readReg r
  | none => 0

/-! ### Writes (R57, R65) -/

/-- An operand-register write `f` (R57): while busy it is ignored and WBUSY sets. -/
def State.operandWrite (s : State) (f : Regs → Regs) : State :=
  if s.busy then { s with wbusy := true } else { s with regs := f s.regs }

/-- Replace the operand registers. -/
def Regs.setOps (r : Regs) (o : Operands) : Regs := { r with ops := o }

/-- A BME shadow write: the stored bits and the register's mask bit (R36). -/
def Regs.writeBme (r : Regs) (k : BmeCoef) (v : Word) : Regs :=
  { r with
    ops := { r.ops with bmeShadow := r.ops.bmeShadow.write v k }
    bme := { r.bme with wmask := maskWith r.bme.wmask k.index } }

/-- An MS shadow write: the stored bits and the register's mask bit (R36, R42). -/
def Regs.writeMs (r : Regs) (i : Fin 7) (v : Word) : Regs :=
  { r with
    ops := { r.ops with msShadow := r.ops.msShadow.set i (v.setWidth 16) }
    ms := { r.ms with wmask := maskWith r.ms.wmask i.val } }

/-- A `RAW_T` write also clears TFINE_VALID (R40). -/
def Regs.writeRawT (r : Regs) (v : Word) : Regs :=
  { r with ops := { r.ops with rawT := v.setWidth 20 }, bme := { r.bme with tfineValid := false } }

/-- A `CMD` write: accept while idle (R117), overrun while a command runs (R118). -/
def State.writeCmd (s : State) (v : Word) : State := if s.busy then s.overrunCmd else s.accept v

/-- A `STATUS` write: W1C of OVERRUN and WBUSY, and nothing else (R25). -/
def State.writeStatus (s : State) (v : Word) : State :=
  { s with overrun := s.overrun && !v.getLsbD 24, wbusy := s.wbusy && !v.getLsbD 25 }

/-- An `IRQ` write: EN takes bit 0, and bit 1 clears PEND (R30). -/
def State.writeIrq (s : State) (v : Word) : State :=
  { s with irqEn := v.getLsbD 0, irqPend := s.irqPend && !v.getLsbD 1 }

/-- A `CTRL` write: bit 0 = 1 is the soft reset, bit 0 = 0 does nothing (R23, R236). -/
def State.writeCtrl (s : State) (v : Word) : State := if v.getLsbD 0 then s.softReset else s

/-- A host write to a register (R65). RO registers ignore it in every phase and set no flag
(R57). -/
def State.writeReg (s : State) (v : Word) : Reg → State
  | .id => s
  | .ctrl => s.writeCtrl v
  | .cmd => s.writeCmd v
  | .status => s.writeStatus v
  | .irq => s.writeIrq v
  | .session => s
  | .calstat => s
  | .bmeWmask => s
  | .bme k => s.operandWrite fun r => r.writeBme k v
  | .h4 => s
  | .h5 => s
  | .rawT => s.operandWrite fun r => r.writeRawT v
  | .rawP => s.operandWrite fun r => r.setOps { r.ops with rawP := v.setWidth 20 }
  | .rawH => s.operandWrite fun r => r.setOps { r.ops with rawH := v.setWidth 16 }
  | .tfine => s
  | .tOut => s
  | .pOut => s
  | .hOut => s
  | .ms i => s.operandWrite fun r => r.writeMs i v
  | .d1 => s.operandWrite fun r => r.setOps { r.ops with d1 := v.setWidth 24 }
  | .d2 => s.operandWrite fun r => r.setOps { r.ops with d2 := v.setWidth 24 }
  | .msTemp => s
  | .msP => s
  | .len => s.operandWrite fun r => r.setOps { r.ops with len := v.setWidth 6 }
  | .crcRes => s
  | .atqaSak => s
  | .authUid => s.operandWrite fun r => r.setOps { r.ops with authUid := v }
  | .keyLo => s.operandWrite fun r => r.setOps { r.ops with keyLo := v }
  | .keyHi => s.operandWrite fun r => r.setOps { r.ops with keyHi := v.setWidth 16 }
  | .dbuf w => s.operandWrite fun r => r.setOps { r.ops with dbuf := dbufSetWord r.ops.dbuf w v }
  | .uidW _ => s
  | .clW0 _ => s
  | .clW1 _ => s

/-- A write at an offset; reserved offsets ignore it and set no flag (R58). -/
def State.writeWindow (s : State) (off : Nat) (v : Word) : State :=
  match Reg.ofOffset off with
  | some r => s.writeReg v r
  | none => s

/-! ### Host accesses (R63, R66) -/

/-- The accesses R63 defines: 32 bits wide, at a multiple of 4, inside the window. -/
def accessOk (off bytes : Nat) : Bool :=
  bytes == 4 && off % 4 == 0 && decide (off < Config.windowSize)

/-- A host read: the value goes to the host and no register changes (R64). -/
def hostRead (off bytes : Nat) (s : State) : Out :=
  if accessOk off bytes then .next { s with hostData := some (s.window off) }
  else .refused .hostAccess

/-- A host write (R65). -/
def hostWrite (off bytes : Nat) (v : Word) (s : State) : Out :=
  if accessOk off bytes then .next (s.writeWindow off v) else .refused .hostAccess

/-- The window offset of a platform address, none outside the window (R63, `P_BASE`). -/
def windowOffset (addr : Nat) : Option Nat :=
  if Config.windowBase ≤ addr ∧ addr < Config.windowBase + Config.windowSize then
    some (addr - Config.windowBase)
  else none

end Sys2Proof.Machine
end

