-- ==== Sys2Proof/Machine/Step.lean ====
section
/-! DEFINITION. One step of the machine (40_common.md R116, 60_exceptions.md R217): the environment's
next move says which agent acts, and one agent acts. With no move listed it is the block engine's
turn, so a block left alone runs on until it finishes or waits for the front-end. -/

namespace Sys2Proof.Machine

/-- The move of one event (R116, R234). -/
def act (e : Event) (s : State) : Host.Outcome State Fault Refusal :=
  match e with
  | .engine => engineStep s
  | .hostRead off bytes => hostRead off bytes s
  | .hostWrite off bytes v => hostWrite off bytes v s
  | .answer a => frontEnd a s
  | .powerOn => .next s.powerOnReset

/-- One step of the machine: take the environment's next move, or the engine's turn if none is
listed. -/
def step (s : State) : Host.Outcome State Fault Refusal :=
  match s.env with
  | [] => engineStep s
  | e :: rest => act e { s with env := rest }

/-- `s` with the command word `w` accepted (R117) and the engine's turn next, so that the very next
step decodes and runs it: nothing else is in flight at the front-end. -/
def State.withFetchWord (s : State) (nbits w : Nat) : State :=
  { s.accept (BitVec.ofNat 32 (w % 2 ^ nbits)) with
    pollcnt := 0, feWait := false, feReq := none, feAns := none, work := none, rxHeld := []
    env := .engine :: s.env }

end Sys2Proof.Machine
end

