-- ==== Sys2Proof/Machine/HostConv.lean ====
section
/-! DEFINITION. The host's side of the interface as pure conventions: the assembler syntax and the
pseudo-instructions (30_encoding.md R107 to R109) as moves of the environment, and the byte formats
of the storage layer (47_host_storage.md R202 to R210). Nothing here is block behaviour (00_scope.md
R7), and no step uses it; the host's procedures with control flow (R161, R205 to R208, R212) are out
of scope by R6 and R7. -/

namespace Sys2Proof.Machine.HostConv

/-! ### Parameters of the host side (R9) -/

/-- The OPEN host-side parameters of R9. -/
structure HostParams where
  /-- `P_OSR_DELAY[0..5]`, the wait in ms per MS5637 preset (R162). -/
  osrDelay : Vector Nat 6
  /-- `P_CLASSIC_BLOCKS[0..8]` (R203). -/
  classicBlocks : Vector Byte 9
  /-- `P_NTAG_FIRST_PAGE` (R203). -/
  ntagFirstPage : Nat
  /-- `P_NTAG_PAGES` (R203). -/
  ntagPages : Nat
  /-- `P_NUMBER_SLOT`, the number's page or block; none is its default, the last usable unit of the
  medium (R9, R210). -/
  numberSlot : Option Byte
  deriving DecidableEq, Repr

/-- The default geometry of R203 and number slot of R9, with the delays of
93_implementation_defined.md G7. -/
def HostParams.default : HostParams :=
  { osrDelay := #v[1, 2, 3, 5, 9, 17], classicBlocks := #v[1, 2, 4, 5, 6, 8, 9, 10, 12]
    ntagFirstPage := 4, ntagPages := 36, numberSlot := none }

/-- Each preset's delay lies in 1..17 ms (R9, R162). -/
def HostParams.delaysOk (p : HostParams) : Bool :=
  p.osrDelay.toList.all fun d => decide (1 ≤ d ∧ d ≤ 17)

/-! ### Geometry of the media (R203, R210) -/

/-- Page `k` of the NTAG text area (R203), as the byte a command carries: DESIGN CHOICE, a page
number past 255 is taken modulo 256 (notes/assumptions/25.md). -/
def HostParams.ntagPage (p : HostParams) (k : Nat) : Byte := BitVec.ofNat 8 (p.ntagFirstPage + k)

/-- The pages of the NTAG text area, in area order (R203). -/
def HostParams.ntagArea (p : HostParams) : List Byte := (List.range p.ntagPages).map p.ntagPage

/-- The blocks of the Classic text area, in table order (R203). -/
def HostParams.classicArea (p : HostParams) : List Byte := p.classicBlocks.toList

/-- The NTAG text capacity in bytes: 4 to a page (R203). -/
def HostParams.ntagCap (p : HostParams) : Nat := 4 * p.ntagPages

/-- The Classic text capacity in bytes: nine blocks of 16 (R203). -/
def classicCap : Nat := 9 * 16

/-- The number slot of an NTAG, by default the last usable page (R210). DESIGN CHOICE: where
`P_NTAG_PAGES` is 0 there is no such page, and the default is `P_NTAG_FIRST_PAGE`
(notes/assumptions/25.md). -/
def HostParams.ntagNumberSlot (p : HostParams) : Byte :=
  p.numberSlot.getD (p.ntagPage (p.ntagPages - 1))

/-- The number slot of a Classic card, by default the last block of the table (R210). -/
def HostParams.classicNumberSlot (p : HostParams) : Byte := p.numberSlot.getD p.classicBlocks[8]

/-! ### Host statements (R108, R109) -/

/-- `WR off, v` (R108). -/
def wr (off : Nat) (v : Word) : Event := .hostWrite off 4 v

/-- `RD off` (R108). -/
def rd (off : Nat) : Event := .hostRead off 4

/-- `CMD <mnemonic> [operands]` (R108): the assembled word is written to `CMD`. -/
def cmd (i : Instr) : Event := wr 0x008 (encode i)

/-- `SETKEY k0,...,k5` (R109). -/
def setKey (k0 k1 k2 k3 k4 k5 : Byte) : List Event :=
  [wr 0x110 (packWord k0 k1 k2 k3), wr 0x114 (packWord k4 k5 0 0)]

/-- `SETAUID u0,u1,u2,u3` (R109). -/
def setAuid (u0 u1 u2 u3 : Byte) : List Event := [wr 0x10C (packWord u0 u1 u2 u3)]

/-- `LOADBUF b0,...,bn` (R109): one write per 4-byte group, the last group's unused bytes 0. -/
def loadBuf (bs : List Byte) : List Event :=
  (List.range ((bs.length + 3) / 4)).map fun w =>
    wr (0x120 + 4 * w) (packWord (byteAt bs (4 * w)) (byteAt bs (4 * w + 1))
      (byteAt bs (4 * w + 2)) (byteAt bs (4 * w + 3)))

/-- `CLRFLAGS` (R109). -/
def clrFlags : Event := wr 0x00C 0x03000000

/-- The write of `ACKIRQ` after `RD IRQ -> q` (R109). -/
def ackIrq (q : Word) : Event := wr 0x010 ((q &&& 1) ||| 2)

/-! ### Assembler syntax (R107) -/

/-- An address operand, printed in decimal (R107). -/
def addrText (a : Byte) : String := toString a.toNat

/-- A command as the assembler writes it (R107). -/
def asm : Instr → String
  | .nop => "NOP"
  | .bmeCalCommit => "BME_CAL_COMMIT"
  | .bmeCalClear => "BME_CAL_CLEAR"
  | .bmeT => "BME_T"
  | .bmeP => "BME_P"
  | .bmeH => "BME_H"
  | .bmeAll => "BME_ALL"
  | .msCalCommit => "MS_CAL_COMMIT"
  | .msCalClear => "MS_CAL_CLEAR"
  | .msComp => "MS_COMP"
  | .crcCalc => "CRC_CALC"
  | .crcCheck => "CRC_CHECK"
  | .request .reqA => "REQUEST REQA"
  | .request .wupA => "REQUEST WUPA"
  | .anticoll l => "ANTICOLL " ++ toString l.toNat
  | .select l => "SELECT " ++ toString l.toNat
  | .scan .reqA => "SCAN REQA"
  | .scan .wupA => "SCAN WUPA"
  | .auth .keyA a => "AUTH A, " ++ addrText a
  | .auth .keyB a => "AUTH B, " ++ addrText a
  | .stopCrypto => "STOPCRYPTO"
  | .read .ntag a => "READ NTAG, " ++ addrText a
  | .read .classic a => "READ CLASSIC, " ++ addrText a
  | .writeClassic a => "WRITE_CLASSIC " ++ addrText a
  | .writeNtag a => "WRITE_NTAG " ++ addrText a

/-! ### Stored text and numbers (R204 to R210) -/

/-- The text stream of R204: null-terminated unless it fills the capacity. -/
def textStream (cap : Nat) (t : List Byte) : List Byte :=
  if t.length < cap then t ++ [0] else t.take cap

/-- A stream cut into units of `n` bytes, the last one padded with 0x00 (R204). -/
def textUnits (n : Nat) (s : List Byte) : List (List Byte) :=
  (List.range ((s.length + n - 1) / n)).map fun k => (List.range n).map fun j => byteAt s (n * k + j)

/-- The text that the bytes of the area read back as: those before the first 0x00 (R206, R208). -/
def readText (area : List Byte) : List Byte := area.takeWhile fun b => b != 0

/-- The four stored bytes of a number (R209). DESIGN CHOICE: a number outside the 32-bit range of
R209 is stored modulo 2^32 (notes/assumptions/25.md). -/
def numberBytes (n : Int) : List Byte := wordBytes (toWord n)

/-- The number that a READ of its unit gives: its first four bytes as stored (R209, R210). -/
def numberOf (bs : List Byte) : Int :=
  (packWord (byteAt bs 0) (byteAt bs 1) (byteAt bs 2) (byteAt bs 3)).toInt

/-- The 16-byte Classic unit of a number: its four bytes, then 12 bytes of 0x00 (R210). -/
def classicNumberUnit (n : Int) : List Byte := numberBytes n ++ List.replicate 12 0

/-- The moves that write a number to its NTAG page, in an open session (R210). -/
def ntagNumberWrite (p : HostParams) (n : Int) : List Event :=
  loadBuf (numberBytes n) ++ [cmd (.writeNtag p.ntagNumberSlot)]

/-- The moves that write a number to its Classic block, inside the access of R207 (R210). -/
def classicNumberWrite (p : HostParams) (n : Int) : List Event :=
  loadBuf (classicNumberUnit n) ++ [cmd (.writeClassic p.classicNumberSlot)]

/-- The command that reads the unit of a number (R210). -/
def numberRead (p : HostParams) : CardKind → Event
  | .ntag => cmd (.read .ntag p.ntagNumberSlot)
  | .classic => cmd (.read .classic p.classicNumberSlot)

end Sys2Proof.Machine.HostConv
end

