-- ==== Sys2Proof/Safety.lean ====
section
/-! DEFINITION. The terms statements about the machine use: the session table of R182, the status
table of R214, the invariant `Inv` of the whole machine, the block run alone against a front-end,
and the bound on a command's requests (40_common.md R129). -/

namespace Sys2Proof.Safety

open Sys2Proof.Machine

/-! ### The session table (44_iso14443_anticoll.md R182) -/

/-- UID_LEN against UID_VALID while IDLE (R182, first two rows). -/
def uidLenOk (valid : Bool) (n : Nat) : Bool :=
  if valid then n == 4 || n == 7 || n == 10 else n == 0 || n == 3 || n == 6

/-- LEVEL, CT, UID_VALID and UID_LEN after an anticollision (R182, rows ANTICOLL and SELECTED). -/
def levelOk (q : SeqUnit) : Bool :=
  if q.ct then
    (q.level == 1 || q.level == 2) && !q.uidValid && q.uid.length == 3 * q.level.toNat
  else q.level != 0 && q.uidValid && q.uid.length == 3 * q.level.toNat + 1

/-- The combinations of R182, with AUTHENTICATED implying CRYPTO_HELD (R192). -/
def sessOk (q : SeqUnit) : Bool :=
  match q.state with
  | .idle => q.level == 0 && !q.ct && uidLenOk q.uidValid q.uid.length
  | .requested => q.level == 0 && !q.ct && !q.uidValid && q.uid.length == 0
  | .anticoll => levelOk q
  | .selected => levelOk q
  | .authenticated => levelOk q && !q.ct && q.cryptoHeld

/-- With CRYPTO_HELD set outside a running AUTH, the session is IDLE or AUTHENTICATED, because every
command that could open another session is refused (R191, R201). -/
def heldOk (q : SeqUnit) : Bool :=
  !q.cryptoHeld || q.state == .idle || q.state == .authenticated

/-! ### STATUS (R123, R214) -/

/-- RESULT and CLASS are those the cause table gives for CAUSE (R123, R214). -/
def statusOk (s : State) : Bool :=
  s.result == s.cause.result && s.errClass == s.cause.errClass

/-! ### The engine in flight (R54, R120) -/

/-- The helper a stage belongs to. -/
inductive Helper where
  | crc
  | trx
  | auth
  | off
  deriving DecidableEq, Repr

/-- The helper of each stage (R90 to R92, R193). -/
def helperOf : Stage → Helper
  | .crc | .selectCrc _ | .selectChk _ | .readCrc | .readChk | .writeCrc | .dataCrc => .crc
  | .request | .anticoll _ | .selectTrx _ | .readTrx | .writeTrx | .dataTrx => .trx
  | .auth => .auth
  | .cryptoOff => .off

/-- Whether `r` is the request of primitive `p` in stage `x` (R90 to R92, R193). -/
def primReq (x : Stage) (p : Prim) (r : FeReq) : Bool :=
  match helperOf x, p, r with
  | .crc, .start, .crcStart _ => true
  | .crc, .poll, .crcPoll => true
  | .crc, .read, .crcRead => true
  | .trx, .start, .trxStart _ _ => true
  | .trx, .poll, .trxPoll => true
  | .trx, .read, .trxRead => true
  | .auth, .start, .authStart _ => true
  | .auth, .poll, .authPoll => true
  | .auth, .read, .cryptoStatus => true
  | .off, .start, .cryptoOff => true
  | _, _, _ => false

/-- Whether answer `a` is in the alphabet of primitive `p` of stage `x` (R80 to R86). -/
def primAns (x : Stage) (p : Prim) (a : FeAns) : Bool :=
  match helperOf x, p with
  | .crc, .start => FeReq.accepts (.crcStart []) a
  | .crc, .poll => FeReq.accepts .crcPoll a
  | .crc, .read => FeReq.accepts .crcRead a
  | .trx, .start => FeReq.accepts (.trxStart [] 0) a
  | .trx, .poll => FeReq.accepts .trxPoll a
  | .trx, .read => FeReq.accepts .trxRead a
  | .auth, .start => FeReq.accepts (.authStart []) a
  | .auth, .poll => FeReq.accepts .authPoll a
  | .auth, .read => FeReq.accepts .cryptoStatus a
  | .off, .start => FeReq.accepts .cryptoOff a
  | .off, _ => false

/-- One request next or out, or one answer in hand, and it is that of the position (R77, R120). -/
def flightOk (s : State) (x : Stage) (p : Prim) : Bool :=
  match s.feReq, s.feAns with
  | some r, none => primReq x p r
  | none, some a => !s.feWait && primAns x p a
  | _, _ => false

/-- Whether the request of the current position has been made. -/
def issued (s : State) : Bool := s.feWait || s.feAns.isSome

/-- The SEQ commands but STOPCRYPTO, the subject of R186. -/
def isTagCommand : Instr → Bool
  | .request _ | .anticoll _ | .select _ | .scan _ | .auth _ _ => true
  | .read _ _ | .writeClassic _ | .writeNtag _ => true
  | .nop | .bmeCalCommit | .bmeCalClear | .bmeT | .bmeP | .bmeH | .bmeAll => false
  | .msCalCommit | .msCalClear | .msComp | .crcCalc | .crcCheck | .stopCrypto => false

/-- The stages of each command's micro-sequence (R164 to R199). -/
def stageOf (i : Instr) (x : Stage) : Bool :=
  match i, x with
  | .crcCalc, .crc => true
  | .crcCheck, .crc => true
  | .request _, .request => true
  | .anticoll l, .anticoll k => l == k
  | .select l, .selectCrc k => l == k
  | .select l, .selectTrx k => l == k
  | .select l, .selectChk k => l == k
  | .scan _, .request => true
  | .scan _, .anticoll l => l != 0
  | .scan _, .selectCrc l => l == 1 || l == 2
  | .scan _, .selectTrx l => l == 1 || l == 2
  | .scan _, .selectChk l => l == 1 || l == 2
  | .auth _ _, .auth => true
  | .stopCrypto, .cryptoOff => true
  | .read _ _, .readCrc => true
  | .read _ _, .readTrx => true
  | .read _ _, .readChk => true
  | .writeClassic _, .writeCrc => true
  | .writeClassic _, .writeTrx => true
  | .writeClassic _, .dataCrc => true
  | .writeClassic _, .dataTrx => true
  | .writeNtag _, .writeCrc => true
  | .writeNtag _, .writeTrx => true
  | _, _ => false

/-- The poll bound of a helper (R87). -/
def pollBound (s : State) (x : Stage) : Nat :=
  match helperOf x with
  | .crc => Config.crcPollMax
  | .trx => s.params.fePollMax
  | .auth => s.params.fePollMax
  | .off => 1

/-- The poll count while polling lies within the loop's bound (R54, R87). -/
def pollOk (s : State) (x : Stage) (p : Prim) : Bool :=
  match p with
  | .poll => decide (1 ≤ s.pollcnt ∧ s.pollcnt ≤ pollBound s x)
  | .start => true
  | .read => true

/-- The session in the working copies of a SELECT at level `l`. -/
def selectWork (i : Instr) (q : SeqUnit) (l : BitVec 2) : Bool :=
  q.state == .anticoll && q.level == l && levelOk q && !q.cryptoHeld &&
    match i with
    | .scan _ => q.ct
    | _ => true

/-- The session in the working copies while command `i` is in stage `x` (R171 to R199). -/
def workOk (i : Instr) (s : State) (x : Stage) (p : Prim) (q : SeqUnit) : Bool :=
  match x with
  | .crc => sessOk q && heldOk q
  | .request => q.level == 0 && !q.ct && !q.uidValid && q.uid.length == 0 && !q.cryptoHeld
  | .anticoll l => l != 0 && !q.uidValid && q.uid.length == 3 * (l.toNat - 1) && !q.cryptoHeld
  | .selectCrc l => selectWork i q l
  | .selectTrx l => selectWork i q l
  | .selectChk l => selectWork i q l
  | .auth => q.state == .selected && levelOk q && q.uidValid &&
      (q.cryptoHeld || (p == .start && !issued s))
  | .cryptoOff => sessOk q && q.state == .idle && !q.cryptoHeld
  | .readCrc | .readTrx | .readChk | .writeCrc | .writeTrx | .dataCrc | .dataTrx =>
      sessOk q && heldOk q && (q.state == .selected || q.state == .authenticated)

/-- The working copy of CRYPTO_HELD agrees with the register, but for STOPCRYPTO's (R55, R193). -/
def heldAgrees (x : Stage) (r q : SeqUnit) : Bool :=
  x == .cryptoOff || q.cryptoHeld == r.cryptoHeld

/-- The engine's part of the invariant at a position (R54). -/
def posOk (s : State) : Bool :=
  match s.pcSeq with
  | .start =>
    s.work == none && s.feReq == none && s.feAns == none && !s.feWait && heldOk s.regs.seq
  | .at x p =>
    match decode s.cur, s.work with
    | .ok i, some w =>
      stageOf i x && flightOk s x p && pollOk s x p && workOk i s x p w.seq &&
        heldAgrees x s.regs.seq w.seq
    | _, _ => false

/-- The engine's part of the invariant (R54, R59, R122). -/
def engineOk (s : State) : Bool :=
  match s.phase with
  | .idle =>
    s.work == none && s.feReq == none && s.feAns == none && !s.feWait && s.pollcnt == 0 &&
      heldOk s.regs.seq
  | .exec => posOk s

/-- The invariant of the machine. -/
structure Inv (s : State) : Prop where
  /-- The poll bound is at least 1 (R87). -/
  params : 1 ≤ s.params.fePollMax
  /-- SESSION is one of the combinations of R182. -/
  session : sessOk s.regs.seq = true
  /-- STATUS is a row of the cause table (R214). -/
  status : statusOk s = true
  /-- At most one answer is due from the front-end (R77, R236). -/
  oneDue : (s.feWait && s.feDiscard) = false
  /-- The engine is idle with nothing in flight, or at a position of its command. -/
  engine : engineOk s = true

/-! ### Commands and runs -/

/-- Command `i` has just been accepted: it is the accepted word, its first block step is next
(R117), and no late answer is due. -/
structure Fresh (i : Instr) (s : State) : Prop where
  phase : s.phase = .exec
  word : decode s.cur = .ok i
  pos : s.pcSeq = .start
  noReq : s.feReq = none
  noAns : s.feAns = none
  noWait : s.feWait = false
  noDiscard : s.feDiscard = false
  noWork : s.work = none

/-- Whether a move is an access of the host (R63). -/
def isHostAccess : Event → Bool
  | .hostRead _ _ => true
  | .hostWrite _ _ _ => true
  | .engine => false
  | .answer _ => false
  | .powerOn => false

/-- The run of a host program is over: the host has issued its last access, and the block is idle
with no front-end answer awaited or to be discarded (70_reset_and_hazards.md R241). -/
def runOver (s : State) : Bool :=
  (s.env.all fun e => !isHostAccess e) && s.phase == .idle && !s.feWait && !s.feDiscard

/-- Do `f` after `o` answers a next state. -/
def andThen (o : Out) (f : State → Out) : Out :=
  match o with
  | .next s => f s
  | .fault r => .fault r
  | .refused r => .refused r

/-- A command run with the front-end's answers in order: for each answer the engine computes to its
next request and makes it (R120), and the answer comes (R116); at the end the engine computes once
more. -/
def converse : List FeAns → State → Out
  | [], s => engineStep s
  | a :: as, s =>
    andThen (andThen (andThen (engineStep s) engineStep) (frontEnd a)) (converse as)

/-- The block left alone with a front-end that answers every request by a strategy `f`, which may
depend on the time: `n` steps, stopping when the command has finished. -/
def serveWith (f : Nat → FeReq → FeAns) : Nat → State → Out
  | 0, s => .next s
  | n + 1, s =>
    if s.phase = .idle then .next s
    else
      match s.feWait, s.feReq with
      | true, some r => andThen (frontEnd (f n r) s) (serveWith f n)
      | _, _ => andThen (engineStep s) (serveWith f n)

/-! ### The request bound (R129) -/

/-- The most requests of one `trx` or `auth` (R129). -/
def trxCost (s : State) : Nat := s.params.fePollMax + 2

/-- The most requests of one `crc16` (R129). -/
def crcCost : Nat := Config.crcPollMax + 2

/-- The most requests of the reply-CRC check, 0 where replies are not checked. -/
def chkCost (s : State) : Nat := if s.params.checkRxCrc then crcCost else 0

/-- The most requests of one `do_select`. -/
def selectCost (s : State) : Nat := crcCost + trxCost s + chkCost s

/-- The most requests of a SCAN from its anticollision at level `l` on. -/
def scanCost (s : State) (l : BitVec 2) : Nat :=
  if l = 1 then 3 * trxCost s + 2 * selectCost s
  else if l = 2 then 2 * trxCost s + selectCost s
  else trxCost s

/-- The most requests a command makes (R129). -/
def cost (s : State) : Instr → Nat
  | .crcCalc => crcCost
  | .crcCheck => crcCost
  | .request _ => trxCost s
  | .anticoll _ => trxCost s
  | .select _ => selectCost s
  | .scan _ => trxCost s + scanCost s 1
  | .auth _ _ => trxCost s
  | .stopCrypto => 1
  | .read _ _ => crcCost + trxCost s + chkCost s
  | .writeClassic _ => 2 * (crcCost + trxCost s)
  | .writeNtag _ => crcCost + trxCost s
  | .nop | .bmeCalCommit | .bmeCalClear | .bmeT | .bmeP | .bmeH | .bmeAll => 0
  | .msCalCommit | .msCalClear | .msComp => 0

/-- The most requests of command `i` after the helper of stage `x` has returned. -/
def costAfter (s : State) (i : Instr) (x : Stage) : Nat :=
  match i, x with
  | .select _, .selectCrc _ => trxCost s + chkCost s
  | .select _, .selectTrx _ => chkCost s
  | .scan _, .request => scanCost s 1
  | .scan _, .anticoll l => if l = 3 then 0 else selectCost s + scanCost s (l + 1)
  | .scan _, .selectCrc l => trxCost s + chkCost s + scanCost s (l + 1)
  | .scan _, .selectTrx l => chkCost s + scanCost s (l + 1)
  | .scan _, .selectChk l => scanCost s (l + 1)
  | .read _ _, .readCrc => trxCost s + chkCost s
  | .read _ _, .readTrx => chkCost s
  | .writeClassic _, .writeCrc => trxCost s + crcCost + trxCost s
  | .writeClassic _, .writeTrx => crcCost + trxCost s
  | .writeClassic _, .dataCrc => trxCost s
  | .writeNtag _, .writeCrc => trxCost s
  | _, _ => 0

/-- The most requests still to be made inside the helper at primitive `p`, the one of `p` among
them. -/
def helperLeft (s : State) (x : Stage) (p : Prim) : Nat :=
  match helperOf x, p with
  | .off, _ => 1
  | _, .start => pollBound s x + 2
  | _, .poll => pollBound s x - s.pollcnt + 2
  | _, .read => 1

/-- The most requests the running command can still make. -/
def budget (s : State) : Nat :=
  match s.phase, s.pcSeq, decode s.cur with
  | .exec, .start, .ok i => cost s i
  | .exec, .at x p, .ok i =>
    helperLeft s x p + costAfter s i x - (if issued s then 1 else 0)
  | _, _, _ => 0

/-! ### The register map's columns (10_state.md R21, R35, R57) -/

/-- The operand registers: RW and WO registers other than CTRL, IRQ, STATUS and CMD (R57). -/
def isOperand : Reg → Bool
  | .bme _ | .rawT | .rawP | .rawH | .ms _ | .d1 | .d2 | .len | .authUid | .keyLo | .keyHi => true
  | .dbuf _ => true
  | .id | .ctrl | .cmd | .status | .irq | .session | .calstat | .bmeWmask | .h4 | .h5 => false
  | .tfine | .tOut | .pOut | .hOut | .msTemp | .msP | .crcRes | .atqaSak => false
  | .uidW _ | .clW0 _ | .clW1 _ => false

/-- The registers that are wholly read-only (R21). -/
def isReadOnly : Reg → Bool
  | .id | .session | .calstat | .bmeWmask | .h4 | .h5 | .tfine | .tOut | .pOut | .hOut => true
  | .msTemp | .msP | .crcRes | .atqaSak | .uidW _ | .clW0 _ | .clW1 _ => true
  | .bme _ | .rawT | .rawP | .rawH | .ms _ | .d1 | .d2 | .len | .authUid | .keyLo => false
  | .keyHi | .dbuf _ | .ctrl | .cmd | .status | .irq => false

/-- The width column of R35. -/
def coefWidth : BmeCoef → Nat
  | .h1 | .h3 | .hpk0 | .hpk1 | .hpk2 | .h6 => 8
  | .t1 | .t2 | .t3 | .p1 | .p2 | .p3 | .p4 | .p5 | .p6 | .p7 | .p8 | .p9 | .h2 => 16

/-- The sign column of R35. -/
def coefSigned : BmeCoef → Bool
  | .t1 | .p1 | .h1 | .h3 | .hpk0 | .hpk1 | .hpk2 => false
  | .t2 | .t3 | .p2 | .p3 | .p4 | .p5 | .p6 | .p7 | .p8 | .p9 | .h2 | .h6 => true

/-! ### The named assumption on the front-end's CRC (20_memory.md R82, R88) -/

/-- The answer a conforming front-end gives to `fe.crc_read` after `fe.crc_start(data)`, for the
assumed function `fn` (`P_FE_CRC_FN`). -/
def conformingRes (fn : List Byte → BitVec 16) (data : List Byte) : FeAns :=
  .res ((fn data).extractLsb' 0 8) ((fn data).extractLsb' 8 8)

/-- A conforming front-end's answer to a request, and the data it keeps for its next `fe.crc_read`:
that of the last `fe.crc_start`. A CRC is ready at its first poll; no other kind of request is
served. -/
def conformingAns (fn : List Byte → BitVec 16) (data : List Byte) : FeReq → List Byte × FeAns
  | .crcStart d => (d, .ack)
  | .crcPoll => (data, .done)
  | .crcRead => (data, conformingRes fn data)
  | .trxStart _ _ => (data, .busfail)
  | .trxPoll => (data, .busfail)
  | .trxRead => (data, .busfail)
  | .authStart _ => (data, .busfail)
  | .authPoll => (data, .busfail)
  | .cryptoStatus => (data, .busfail)
  | .cryptoOff => (data, .busfail)

/-- The block left alone with a conforming front-end that holds `data`: `n` steps, stopping when the
command has finished. What it answers is a function of the requests the block makes. -/
def serveConforming (fn : List Byte → BitVec 16) : Nat → List Byte → State → Out
  | 0, _, s => .next s
  | n + 1, data, s =>
    if s.phase = .idle then .next s
    else
      match s.feWait, s.feReq with
      | true, some r =>
        andThen (frontEnd (conformingAns fn data r).2 s)
          (serveConforming fn n (conformingAns fn data r).1)
      | _, _ => andThen (engineStep s) (serveConforming fn n data)

end Sys2Proof.Safety
end

