-- ==== Sys2Proof/Laws/State.lean ====
section
/-! SUPPORT. The state record's small lemmas: for each update operation, the value of each field
after it. All hold by unfolding that one operation and are simp lemmas, so that no proof unfolds a record update. -/

namespace Sys2Proof.Machine

/-! ### Preparing a request -/

section State_ask_fields
variable (s : State) (w : Regs) (x : Stage) (p : Prim) (r : FeReq)
@[simp] theorem State.ask_params : (s.ask w x p r).params = s.params := rfl
@[simp] theorem State.ask_regs : (s.ask w x p r).regs = s.regs := rfl
@[simp] theorem State.ask_cur : (s.ask w x p r).cur = s.cur := rfl
@[simp] theorem State.ask_opsnap : (s.ask w x p r).opsnap = s.opsnap := rfl
@[simp] theorem State.ask_phase : (s.ask w x p r).phase = s.phase := rfl
@[simp] theorem State.ask_done : (s.ask w x p r).done = s.done := rfl
@[simp] theorem State.ask_result : (s.ask w x p r).result = s.result := rfl
@[simp] theorem State.ask_errClass : (s.ask w x p r).errClass = s.errClass := rfl
@[simp] theorem State.ask_cause : (s.ask w x p r).cause = s.cause := rfl
@[simp] theorem State.ask_overrun : (s.ask w x p r).overrun = s.overrun := rfl
@[simp] theorem State.ask_wbusy : (s.ask w x p r).wbusy = s.wbusy := rfl
@[simp] theorem State.ask_irqEn : (s.ask w x p r).irqEn = s.irqEn := rfl
@[simp] theorem State.ask_irqPend : (s.ask w x p r).irqPend = s.irqPend := rfl
@[simp] theorem State.ask_pcSeq : (s.ask w x p r).pcSeq = .at x p := rfl
@[simp] theorem State.ask_pollcnt : (s.ask w x p r).pollcnt = s.pollcnt := rfl
@[simp] theorem State.ask_feWait : (s.ask w x p r).feWait = s.feWait := rfl
@[simp] theorem State.ask_feDiscard : (s.ask w x p r).feDiscard = s.feDiscard := rfl
@[simp] theorem State.ask_feReq : (s.ask w x p r).feReq = some r := rfl
@[simp] theorem State.ask_feAns : (s.ask w x p r).feAns = none := rfl
@[simp] theorem State.ask_work : (s.ask w x p r).work = some w := rfl
@[simp] theorem State.ask_rxHeld : (s.ask w x p r).rxHeld = s.rxHeld := rfl
@[simp] theorem State.ask_hostData : (s.ask w x p r).hostData = s.hostData := rfl
@[simp] theorem State.ask_env : (s.ask w x p r).env = s.env := rfl
end State_ask_fields

/-! ### The poll count -/

section State_setPoll_fields
variable (s : State) (n : Nat)
@[simp] theorem State.setPoll_params : (s.setPoll n).params = s.params := rfl
@[simp] theorem State.setPoll_regs : (s.setPoll n).regs = s.regs := rfl
@[simp] theorem State.setPoll_cur : (s.setPoll n).cur = s.cur := rfl
@[simp] theorem State.setPoll_opsnap : (s.setPoll n).opsnap = s.opsnap := rfl
@[simp] theorem State.setPoll_phase : (s.setPoll n).phase = s.phase := rfl
@[simp] theorem State.setPoll_done : (s.setPoll n).done = s.done := rfl
@[simp] theorem State.setPoll_result : (s.setPoll n).result = s.result := rfl
@[simp] theorem State.setPoll_errClass : (s.setPoll n).errClass = s.errClass := rfl
@[simp] theorem State.setPoll_cause : (s.setPoll n).cause = s.cause := rfl
@[simp] theorem State.setPoll_overrun : (s.setPoll n).overrun = s.overrun := rfl
@[simp] theorem State.setPoll_wbusy : (s.setPoll n).wbusy = s.wbusy := rfl
@[simp] theorem State.setPoll_irqEn : (s.setPoll n).irqEn = s.irqEn := rfl
@[simp] theorem State.setPoll_irqPend : (s.setPoll n).irqPend = s.irqPend := rfl
@[simp] theorem State.setPoll_pcSeq : (s.setPoll n).pcSeq = s.pcSeq := rfl
@[simp] theorem State.setPoll_pollcnt : (s.setPoll n).pollcnt = n := rfl
@[simp] theorem State.setPoll_feWait : (s.setPoll n).feWait = s.feWait := rfl
@[simp] theorem State.setPoll_feDiscard : (s.setPoll n).feDiscard = s.feDiscard := rfl
@[simp] theorem State.setPoll_feReq : (s.setPoll n).feReq = s.feReq := rfl
@[simp] theorem State.setPoll_feAns : (s.setPoll n).feAns = s.feAns := rfl
@[simp] theorem State.setPoll_work : (s.setPoll n).work = s.work := rfl
@[simp] theorem State.setPoll_rxHeld : (s.setPoll n).rxHeld = s.rxHeld := rfl
@[simp] theorem State.setPoll_hostData : (s.setPoll n).hostData = s.hostData := rfl
@[simp] theorem State.setPoll_env : (s.setPoll n).env = s.env := rfl
end State_setPoll_fields

/-! ### The held frame -/

section State_holdRx_fields
variable (s : State) (bs : List Byte)
@[simp] theorem State.holdRx_params : (s.holdRx bs).params = s.params := rfl
@[simp] theorem State.holdRx_regs : (s.holdRx bs).regs = s.regs := rfl
@[simp] theorem State.holdRx_cur : (s.holdRx bs).cur = s.cur := rfl
@[simp] theorem State.holdRx_opsnap : (s.holdRx bs).opsnap = s.opsnap := rfl
@[simp] theorem State.holdRx_phase : (s.holdRx bs).phase = s.phase := rfl
@[simp] theorem State.holdRx_done : (s.holdRx bs).done = s.done := rfl
@[simp] theorem State.holdRx_result : (s.holdRx bs).result = s.result := rfl
@[simp] theorem State.holdRx_errClass : (s.holdRx bs).errClass = s.errClass := rfl
@[simp] theorem State.holdRx_cause : (s.holdRx bs).cause = s.cause := rfl
@[simp] theorem State.holdRx_overrun : (s.holdRx bs).overrun = s.overrun := rfl
@[simp] theorem State.holdRx_wbusy : (s.holdRx bs).wbusy = s.wbusy := rfl
@[simp] theorem State.holdRx_irqEn : (s.holdRx bs).irqEn = s.irqEn := rfl
@[simp] theorem State.holdRx_irqPend : (s.holdRx bs).irqPend = s.irqPend := rfl
@[simp] theorem State.holdRx_pcSeq : (s.holdRx bs).pcSeq = s.pcSeq := rfl
@[simp] theorem State.holdRx_pollcnt : (s.holdRx bs).pollcnt = s.pollcnt := rfl
@[simp] theorem State.holdRx_feWait : (s.holdRx bs).feWait = s.feWait := rfl
@[simp] theorem State.holdRx_feDiscard : (s.holdRx bs).feDiscard = s.feDiscard := rfl
@[simp] theorem State.holdRx_feReq : (s.holdRx bs).feReq = s.feReq := rfl
@[simp] theorem State.holdRx_feAns : (s.holdRx bs).feAns = s.feAns := rfl
@[simp] theorem State.holdRx_work : (s.holdRx bs).work = s.work := rfl
@[simp] theorem State.holdRx_rxHeld : (s.holdRx bs).rxHeld = bs := rfl
@[simp] theorem State.holdRx_hostData : (s.holdRx bs).hostData = s.hostData := rfl
@[simp] theorem State.holdRx_env : (s.holdRx bs).env = s.env := rfl
end State_holdRx_fields

/-! ### Finish -/

section State_finish_fields
variable (s : State) (w : Regs) (r : Result) (c : ErrClass) (k : Cause)
@[simp] theorem State.finish_params : (s.finish w r c k).params = s.params := rfl
@[simp] theorem State.finish_regs : (s.finish w r c k).regs = w := rfl
@[simp] theorem State.finish_cur : (s.finish w r c k).cur = s.cur := rfl
@[simp] theorem State.finish_opsnap : (s.finish w r c k).opsnap = s.opsnap := rfl
@[simp] theorem State.finish_phase : (s.finish w r c k).phase = .idle := rfl
@[simp] theorem State.finish_done : (s.finish w r c k).done = true := rfl
@[simp] theorem State.finish_result : (s.finish w r c k).result = r := rfl
@[simp] theorem State.finish_errClass : (s.finish w r c k).errClass = c := rfl
@[simp] theorem State.finish_cause : (s.finish w r c k).cause = k := rfl
@[simp] theorem State.finish_overrun : (s.finish w r c k).overrun = s.overrun := rfl
@[simp] theorem State.finish_wbusy : (s.finish w r c k).wbusy = s.wbusy := rfl
@[simp] theorem State.finish_irqEn : (s.finish w r c k).irqEn = s.irqEn := rfl
@[simp] theorem State.finish_irqPend : (s.finish w r c k).irqPend = true := rfl
@[simp] theorem State.finish_pcSeq : (s.finish w r c k).pcSeq = s.pcSeq := rfl
@[simp] theorem State.finish_pollcnt : (s.finish w r c k).pollcnt = 0 := rfl
@[simp] theorem State.finish_feWait : (s.finish w r c k).feWait = false := rfl
@[simp] theorem State.finish_feDiscard : (s.finish w r c k).feDiscard = s.feDiscard := rfl
@[simp] theorem State.finish_feReq : (s.finish w r c k).feReq = none := rfl
@[simp] theorem State.finish_feAns : (s.finish w r c k).feAns = none := rfl
@[simp] theorem State.finish_work : (s.finish w r c k).work = none := rfl
@[simp] theorem State.finish_rxHeld : (s.finish w r c k).rxHeld = [] := rfl
@[simp] theorem State.finish_hostData : (s.finish w r c k).hostData = s.hostData := rfl
@[simp] theorem State.finish_env : (s.finish w r c k).env = s.env := rfl
end State_finish_fields

/-! ### Accept -/

section State_accept_fields
variable (s : State) (w : Word)
@[simp] theorem State.accept_params : (s.accept w).params = s.params := rfl
@[simp] theorem State.accept_regs : (s.accept w).regs = s.regs := rfl
@[simp] theorem State.accept_cur : (s.accept w).cur = w := rfl
@[simp] theorem State.accept_opsnap : (s.accept w).opsnap = s.regs.ops := rfl
@[simp] theorem State.accept_phase : (s.accept w).phase = .exec := rfl
@[simp] theorem State.accept_done : (s.accept w).done = false := rfl
@[simp] theorem State.accept_result : (s.accept w).result = s.result := rfl
@[simp] theorem State.accept_errClass : (s.accept w).errClass = s.errClass := rfl
@[simp] theorem State.accept_cause : (s.accept w).cause = s.cause := rfl
@[simp] theorem State.accept_overrun : (s.accept w).overrun = s.overrun := rfl
@[simp] theorem State.accept_wbusy : (s.accept w).wbusy = s.wbusy := rfl
@[simp] theorem State.accept_irqEn : (s.accept w).irqEn = s.irqEn := rfl
@[simp] theorem State.accept_irqPend : (s.accept w).irqPend = s.irqPend := rfl
@[simp] theorem State.accept_pcSeq : (s.accept w).pcSeq = .start := rfl
@[simp] theorem State.accept_pollcnt : (s.accept w).pollcnt = s.pollcnt := rfl
@[simp] theorem State.accept_feWait : (s.accept w).feWait = s.feWait := rfl
@[simp] theorem State.accept_feDiscard : (s.accept w).feDiscard = s.feDiscard := rfl
@[simp] theorem State.accept_feReq : (s.accept w).feReq = s.feReq := rfl
@[simp] theorem State.accept_feAns : (s.accept w).feAns = s.feAns := rfl
@[simp] theorem State.accept_work : (s.accept w).work = s.work := rfl
@[simp] theorem State.accept_rxHeld : (s.accept w).rxHeld = s.rxHeld := rfl
@[simp] theorem State.accept_hostData : (s.accept w).hostData = s.hostData := rfl
@[simp] theorem State.accept_env : (s.accept w).env = s.env := rfl
end State_accept_fields

/-! ### Overrun -/

section State_overrunCmd_fields
variable (s : State)
@[simp] theorem State.overrunCmd_params : (s.overrunCmd).params = s.params := rfl
@[simp] theorem State.overrunCmd_regs : (s.overrunCmd).regs = s.regs := rfl
@[simp] theorem State.overrunCmd_cur : (s.overrunCmd).cur = s.cur := rfl
@[simp] theorem State.overrunCmd_opsnap : (s.overrunCmd).opsnap = s.opsnap := rfl
@[simp] theorem State.overrunCmd_phase : (s.overrunCmd).phase = s.phase := rfl
@[simp] theorem State.overrunCmd_done : (s.overrunCmd).done = s.done := rfl
@[simp] theorem State.overrunCmd_result : (s.overrunCmd).result = s.result := rfl
@[simp] theorem State.overrunCmd_errClass : (s.overrunCmd).errClass = s.errClass := rfl
@[simp] theorem State.overrunCmd_cause : (s.overrunCmd).cause = s.cause := rfl
@[simp] theorem State.overrunCmd_overrun : (s.overrunCmd).overrun = true := rfl
@[simp] theorem State.overrunCmd_wbusy : (s.overrunCmd).wbusy = s.wbusy := rfl
@[simp] theorem State.overrunCmd_irqEn : (s.overrunCmd).irqEn = s.irqEn := rfl
@[simp] theorem State.overrunCmd_irqPend : (s.overrunCmd).irqPend = s.irqPend := rfl
@[simp] theorem State.overrunCmd_pcSeq : (s.overrunCmd).pcSeq = s.pcSeq := rfl
@[simp] theorem State.overrunCmd_pollcnt : (s.overrunCmd).pollcnt = s.pollcnt := rfl
@[simp] theorem State.overrunCmd_feWait : (s.overrunCmd).feWait = s.feWait := rfl
@[simp] theorem State.overrunCmd_feDiscard : (s.overrunCmd).feDiscard = s.feDiscard := rfl
@[simp] theorem State.overrunCmd_feReq : (s.overrunCmd).feReq = s.feReq := rfl
@[simp] theorem State.overrunCmd_feAns : (s.overrunCmd).feAns = s.feAns := rfl
@[simp] theorem State.overrunCmd_work : (s.overrunCmd).work = s.work := rfl
@[simp] theorem State.overrunCmd_rxHeld : (s.overrunCmd).rxHeld = s.rxHeld := rfl
@[simp] theorem State.overrunCmd_hostData : (s.overrunCmd).hostData = s.hostData := rfl
@[simp] theorem State.overrunCmd_env : (s.overrunCmd).env = s.env := rfl
end State_overrunCmd_fields

/-! ### The STATUS write -/

section State_writeStatus_fields
variable (s : State) (v : Word)
@[simp] theorem State.writeStatus_params : (s.writeStatus v).params = s.params := rfl
@[simp] theorem State.writeStatus_regs : (s.writeStatus v).regs = s.regs := rfl
@[simp] theorem State.writeStatus_cur : (s.writeStatus v).cur = s.cur := rfl
@[simp] theorem State.writeStatus_opsnap : (s.writeStatus v).opsnap = s.opsnap := rfl
@[simp] theorem State.writeStatus_phase : (s.writeStatus v).phase = s.phase := rfl
@[simp] theorem State.writeStatus_done : (s.writeStatus v).done = s.done := rfl
@[simp] theorem State.writeStatus_result : (s.writeStatus v).result = s.result := rfl
@[simp] theorem State.writeStatus_errClass : (s.writeStatus v).errClass = s.errClass := rfl
@[simp] theorem State.writeStatus_cause : (s.writeStatus v).cause = s.cause := rfl
@[simp] theorem State.writeStatus_overrun :
    (s.writeStatus v).overrun = (s.overrun && !v.getLsbD 24) := rfl
@[simp] theorem State.writeStatus_wbusy :
    (s.writeStatus v).wbusy = (s.wbusy && !v.getLsbD 25) := rfl
@[simp] theorem State.writeStatus_irqEn : (s.writeStatus v).irqEn = s.irqEn := rfl
@[simp] theorem State.writeStatus_irqPend : (s.writeStatus v).irqPend = s.irqPend := rfl
@[simp] theorem State.writeStatus_pcSeq : (s.writeStatus v).pcSeq = s.pcSeq := rfl
@[simp] theorem State.writeStatus_pollcnt : (s.writeStatus v).pollcnt = s.pollcnt := rfl
@[simp] theorem State.writeStatus_feWait : (s.writeStatus v).feWait = s.feWait := rfl
@[simp] theorem State.writeStatus_feDiscard : (s.writeStatus v).feDiscard = s.feDiscard := rfl
@[simp] theorem State.writeStatus_feReq : (s.writeStatus v).feReq = s.feReq := rfl
@[simp] theorem State.writeStatus_feAns : (s.writeStatus v).feAns = s.feAns := rfl
@[simp] theorem State.writeStatus_work : (s.writeStatus v).work = s.work := rfl
@[simp] theorem State.writeStatus_rxHeld : (s.writeStatus v).rxHeld = s.rxHeld := rfl
@[simp] theorem State.writeStatus_hostData : (s.writeStatus v).hostData = s.hostData := rfl
@[simp] theorem State.writeStatus_env : (s.writeStatus v).env = s.env := rfl
end State_writeStatus_fields

/-! ### The IRQ write -/

section State_writeIrq_fields
variable (s : State) (v : Word)
@[simp] theorem State.writeIrq_params : (s.writeIrq v).params = s.params := rfl
@[simp] theorem State.writeIrq_regs : (s.writeIrq v).regs = s.regs := rfl
@[simp] theorem State.writeIrq_cur : (s.writeIrq v).cur = s.cur := rfl
@[simp] theorem State.writeIrq_opsnap : (s.writeIrq v).opsnap = s.opsnap := rfl
@[simp] theorem State.writeIrq_phase : (s.writeIrq v).phase = s.phase := rfl
@[simp] theorem State.writeIrq_done : (s.writeIrq v).done = s.done := rfl
@[simp] theorem State.writeIrq_result : (s.writeIrq v).result = s.result := rfl
@[simp] theorem State.writeIrq_errClass : (s.writeIrq v).errClass = s.errClass := rfl
@[simp] theorem State.writeIrq_cause : (s.writeIrq v).cause = s.cause := rfl
@[simp] theorem State.writeIrq_overrun : (s.writeIrq v).overrun = s.overrun := rfl
@[simp] theorem State.writeIrq_wbusy : (s.writeIrq v).wbusy = s.wbusy := rfl
@[simp] theorem State.writeIrq_irqEn : (s.writeIrq v).irqEn = v.getLsbD 0 := rfl
@[simp] theorem State.writeIrq_irqPend :
    (s.writeIrq v).irqPend = (s.irqPend && !v.getLsbD 1) := rfl
@[simp] theorem State.writeIrq_pcSeq : (s.writeIrq v).pcSeq = s.pcSeq := rfl
@[simp] theorem State.writeIrq_pollcnt : (s.writeIrq v).pollcnt = s.pollcnt := rfl
@[simp] theorem State.writeIrq_feWait : (s.writeIrq v).feWait = s.feWait := rfl
@[simp] theorem State.writeIrq_feDiscard : (s.writeIrq v).feDiscard = s.feDiscard := rfl
@[simp] theorem State.writeIrq_feReq : (s.writeIrq v).feReq = s.feReq := rfl
@[simp] theorem State.writeIrq_feAns : (s.writeIrq v).feAns = s.feAns := rfl
@[simp] theorem State.writeIrq_work : (s.writeIrq v).work = s.work := rfl
@[simp] theorem State.writeIrq_rxHeld : (s.writeIrq v).rxHeld = s.rxHeld := rfl
@[simp] theorem State.writeIrq_hostData : (s.writeIrq v).hostData = s.hostData := rfl
@[simp] theorem State.writeIrq_env : (s.writeIrq v).env = s.env := rfl
end State_writeIrq_fields

/-! ### Power-on reset -/

section State_powerOnReset_fields
variable (s : State)
@[simp] theorem State.powerOnReset_params : (s.powerOnReset).params = s.params := rfl
@[simp] theorem State.powerOnReset_regs : (s.powerOnReset).regs = State.reset.regs := rfl
@[simp] theorem State.powerOnReset_cur : (s.powerOnReset).cur = State.reset.cur := rfl
@[simp] theorem State.powerOnReset_opsnap : (s.powerOnReset).opsnap = State.reset.opsnap := rfl
@[simp] theorem State.powerOnReset_phase : (s.powerOnReset).phase = State.reset.phase := rfl
@[simp] theorem State.powerOnReset_done : (s.powerOnReset).done = State.reset.done := rfl
@[simp] theorem State.powerOnReset_result : (s.powerOnReset).result = State.reset.result := rfl
@[simp] theorem State.powerOnReset_errClass :
    (s.powerOnReset).errClass = State.reset.errClass := rfl
@[simp] theorem State.powerOnReset_cause : (s.powerOnReset).cause = State.reset.cause := rfl
@[simp] theorem State.powerOnReset_overrun : (s.powerOnReset).overrun = State.reset.overrun := rfl
@[simp] theorem State.powerOnReset_wbusy : (s.powerOnReset).wbusy = State.reset.wbusy := rfl
@[simp] theorem State.powerOnReset_irqEn : (s.powerOnReset).irqEn = State.reset.irqEn := rfl
@[simp] theorem State.powerOnReset_irqPend : (s.powerOnReset).irqPend = State.reset.irqPend := rfl
@[simp] theorem State.powerOnReset_pcSeq : (s.powerOnReset).pcSeq = State.reset.pcSeq := rfl
@[simp] theorem State.powerOnReset_pollcnt : (s.powerOnReset).pollcnt = State.reset.pollcnt := rfl
@[simp] theorem State.powerOnReset_feWait : (s.powerOnReset).feWait = State.reset.feWait := rfl
@[simp] theorem State.powerOnReset_feDiscard :
    (s.powerOnReset).feDiscard = State.reset.feDiscard := rfl
@[simp] theorem State.powerOnReset_feReq : (s.powerOnReset).feReq = State.reset.feReq := rfl
@[simp] theorem State.powerOnReset_feAns : (s.powerOnReset).feAns = State.reset.feAns := rfl
@[simp] theorem State.powerOnReset_work : (s.powerOnReset).work = State.reset.work := rfl
@[simp] theorem State.powerOnReset_rxHeld : (s.powerOnReset).rxHeld = State.reset.rxHeld := rfl
@[simp] theorem State.powerOnReset_hostData : (s.powerOnReset).hostData = s.hostData := rfl
@[simp] theorem State.powerOnReset_env : (s.powerOnReset).env = s.env := rfl
end State_powerOnReset_fields

/-! ### Soft reset -/

section State_softReset_fields
variable (s : State)
@[simp] theorem State.softReset_params : (s.softReset).params = s.params := rfl
@[simp] theorem State.softReset_regs :
    (s.softReset).regs =
      { Regs.reset with
        seq := { SeqUnit.reset with cryptoHeld := s.regs.seq.cryptoHeld } } := rfl
@[simp] theorem State.softReset_cur : (s.softReset).cur = State.reset.cur := rfl
@[simp] theorem State.softReset_opsnap : (s.softReset).opsnap = State.reset.opsnap := rfl
@[simp] theorem State.softReset_phase : (s.softReset).phase = State.reset.phase := rfl
@[simp] theorem State.softReset_done : (s.softReset).done = State.reset.done := rfl
@[simp] theorem State.softReset_result : (s.softReset).result = State.reset.result := rfl
@[simp] theorem State.softReset_errClass : (s.softReset).errClass = State.reset.errClass := rfl
@[simp] theorem State.softReset_cause : (s.softReset).cause = State.reset.cause := rfl
@[simp] theorem State.softReset_overrun : (s.softReset).overrun = State.reset.overrun := rfl
@[simp] theorem State.softReset_wbusy : (s.softReset).wbusy = State.reset.wbusy := rfl
@[simp] theorem State.softReset_irqEn : (s.softReset).irqEn = State.reset.irqEn := rfl
@[simp] theorem State.softReset_irqPend : (s.softReset).irqPend = State.reset.irqPend := rfl
@[simp] theorem State.softReset_pcSeq : (s.softReset).pcSeq = State.reset.pcSeq := rfl
@[simp] theorem State.softReset_pollcnt : (s.softReset).pollcnt = State.reset.pollcnt := rfl
@[simp] theorem State.softReset_feWait : (s.softReset).feWait = State.reset.feWait := rfl
@[simp] theorem State.softReset_feDiscard :
    (s.softReset).feDiscard = (s.feWait || s.feDiscard) := rfl
@[simp] theorem State.softReset_feReq : (s.softReset).feReq = State.reset.feReq := rfl
@[simp] theorem State.softReset_feAns : (s.softReset).feAns = State.reset.feAns := rfl
@[simp] theorem State.softReset_work : (s.softReset).work = State.reset.work := rfl
@[simp] theorem State.softReset_rxHeld : (s.softReset).rxHeld = State.reset.rxHeld := rfl
@[simp] theorem State.softReset_hostData : (s.softReset).hostData = s.hostData := rfl
@[simp] theorem State.softReset_env : (s.softReset).env = s.env := rfl
end State_softReset_fields

/-! ### Regs.setSeq -/

section Regs_setSeq_fields
variable (r : Regs) (q : SeqUnit)
@[simp] theorem Regs.setSeq_ops : (r.setSeq q).ops = r.ops := rfl
@[simp] theorem Regs.setSeq_bme : (r.setSeq q).bme = r.bme := rfl
@[simp] theorem Regs.setSeq_ms : (r.setSeq q).ms = r.ms := rfl
@[simp] theorem Regs.setSeq_crcRes : (r.setSeq q).crcRes = r.crcRes := rfl
@[simp] theorem Regs.setSeq_seq : (r.setSeq q).seq = q := rfl
end Regs_setSeq_fields

/-! ### Regs.tagGone -/

section Regs_tagGone_fields
variable (r : Regs)
@[simp] theorem Regs.tagGone_ops : (r.tagGone).ops = r.ops := rfl
@[simp] theorem Regs.tagGone_bme : (r.tagGone).bme = r.bme := rfl
@[simp] theorem Regs.tagGone_ms : (r.tagGone).ms = r.ms := rfl
@[simp] theorem Regs.tagGone_crcRes : (r.tagGone).crcRes = r.crcRes := rfl
@[simp] theorem Regs.tagGone_seq : (r.tagGone).seq = r.seq.tagGone := rfl
end Regs_tagGone_fields

/-! ### Regs.sessionAbort -/

section Regs_sessionAbort_fields
variable (r : Regs)
@[simp] theorem Regs.sessionAbort_ops : (r.sessionAbort).ops = r.ops := rfl
@[simp] theorem Regs.sessionAbort_bme : (r.sessionAbort).bme = r.bme := rfl
@[simp] theorem Regs.sessionAbort_ms : (r.sessionAbort).ms = r.ms := rfl
@[simp] theorem Regs.sessionAbort_crcRes : (r.sessionAbort).crcRes = r.crcRes := rfl
@[simp] theorem Regs.sessionAbort_seq : (r.sessionAbort).seq = r.seq.sessionAbort := rfl
end Regs_sessionAbort_fields

/-! ### Regs.setBme -/

section Regs_setBme_fields
variable (r : Regs) (b : BmeUnit)
@[simp] theorem Regs.setBme_ops : (r.setBme b).ops = r.ops := rfl
@[simp] theorem Regs.setBme_bme : (r.setBme b).bme = b := rfl
@[simp] theorem Regs.setBme_ms : (r.setBme b).ms = r.ms := rfl
@[simp] theorem Regs.setBme_crcRes : (r.setBme b).crcRes = r.crcRes := rfl
@[simp] theorem Regs.setBme_seq : (r.setBme b).seq = r.seq := rfl
end Regs_setBme_fields

/-! ### Regs.setMs -/

section Regs_setMs_fields
variable (r : Regs) (m : MsUnit)
@[simp] theorem Regs.setMs_ops : (r.setMs m).ops = r.ops := rfl
@[simp] theorem Regs.setMs_bme : (r.setMs m).bme = r.bme := rfl
@[simp] theorem Regs.setMs_ms : (r.setMs m).ms = m := rfl
@[simp] theorem Regs.setMs_crcRes : (r.setMs m).crcRes = r.crcRes := rfl
@[simp] theorem Regs.setMs_seq : (r.setMs m).seq = r.seq := rfl
end Regs_setMs_fields

/-! ### Regs.setCrcRes -/

section Regs_setCrcRes_fields
variable (r : Regs) (c : BitVec 16)
@[simp] theorem Regs.setCrcRes_ops : (r.setCrcRes c).ops = r.ops := rfl
@[simp] theorem Regs.setCrcRes_bme : (r.setCrcRes c).bme = r.bme := rfl
@[simp] theorem Regs.setCrcRes_ms : (r.setCrcRes c).ms = r.ms := rfl
@[simp] theorem Regs.setCrcRes_crcRes : (r.setCrcRes c).crcRes = c := rfl
@[simp] theorem Regs.setCrcRes_seq : (r.setCrcRes c).seq = r.seq := rfl
end Regs_setCrcRes_fields

/-! ### Regs.loadDbuf -/

section Regs_loadDbuf_fields
variable (r : Regs) (rx : List Byte)
@[simp] theorem Regs.loadDbuf_ops :
    (r.loadDbuf rx).ops = { r.ops with dbuf := dbufLoad16 r.ops.dbuf rx } := rfl
@[simp] theorem Regs.loadDbuf_bme : (r.loadDbuf rx).bme = r.bme := by simp only [Regs.loadDbuf]
@[simp] theorem Regs.loadDbuf_ms : (r.loadDbuf rx).ms = r.ms := by simp only [Regs.loadDbuf]
@[simp] theorem Regs.loadDbuf_crcRes : (r.loadDbuf rx).crcRes = r.crcRes := by simp only [Regs.loadDbuf]
@[simp] theorem Regs.loadDbuf_seq : (r.loadDbuf rx).seq = r.seq := by simp only [Regs.loadDbuf]
end Regs_loadDbuf_fields

/-! ### Regs.holdCrypto -/

section Regs_holdCrypto_fields
variable (r : Regs)
@[simp] theorem Regs.holdCrypto_ops : (r.holdCrypto).ops = r.ops := rfl
@[simp] theorem Regs.holdCrypto_bme : (r.holdCrypto).bme = r.bme := rfl
@[simp] theorem Regs.holdCrypto_ms : (r.holdCrypto).ms = r.ms := rfl
@[simp] theorem Regs.holdCrypto_crcRes : (r.holdCrypto).crcRes = r.crcRes := rfl
@[simp] theorem Regs.holdCrypto_seq : (r.holdCrypto).seq = { r.seq with cryptoHeld := true } := rfl
end Regs_holdCrypto_fields

/-! ### SeqUnit.tagGone -/

section SeqUnit_tagGone_fields
variable (q : SeqUnit)
@[simp] theorem SeqUnit.tagGone_state : (q.tagGone).state = .idle := rfl
@[simp] theorem SeqUnit.tagGone_uidValid : (q.tagGone).uidValid = false := rfl
@[simp] theorem SeqUnit.tagGone_cryptoHeld : (q.tagGone).cryptoHeld = q.cryptoHeld := rfl
@[simp] theorem SeqUnit.tagGone_level : (q.tagGone).level = 0 := rfl
@[simp] theorem SeqUnit.tagGone_ct : (q.tagGone).ct = false := rfl
@[simp] theorem SeqUnit.tagGone_uid : (q.tagGone).uid = [] := rfl
@[simp] theorem SeqUnit.tagGone_atqa : (q.tagGone).atqa = q.atqa := rfl
@[simp] theorem SeqUnit.tagGone_sak : (q.tagGone).sak = q.sak := rfl
@[simp] theorem SeqUnit.tagGone_cl1 : (q.tagGone).cl1 = q.cl1 := rfl
@[simp] theorem SeqUnit.tagGone_cl2 : (q.tagGone).cl2 = q.cl2 := rfl
@[simp] theorem SeqUnit.tagGone_cl3 : (q.tagGone).cl3 = q.cl3 := rfl
end SeqUnit_tagGone_fields

/-! ### SeqUnit.sessionAbort -/

section SeqUnit_sessionAbort_fields
variable (q : SeqUnit)
@[simp] theorem SeqUnit.sessionAbort_state : (q.sessionAbort).state = .idle := rfl
@[simp] theorem SeqUnit.sessionAbort_uidValid : (q.sessionAbort).uidValid = q.uidValid := rfl
@[simp] theorem SeqUnit.sessionAbort_cryptoHeld : (q.sessionAbort).cryptoHeld = q.cryptoHeld := rfl
@[simp] theorem SeqUnit.sessionAbort_level : (q.sessionAbort).level = 0 := rfl
@[simp] theorem SeqUnit.sessionAbort_ct : (q.sessionAbort).ct = false := rfl
@[simp] theorem SeqUnit.sessionAbort_uid : (q.sessionAbort).uid = q.uid := rfl
@[simp] theorem SeqUnit.sessionAbort_atqa : (q.sessionAbort).atqa = q.atqa := rfl
@[simp] theorem SeqUnit.sessionAbort_sak : (q.sessionAbort).sak = q.sak := rfl
@[simp] theorem SeqUnit.sessionAbort_cl1 : (q.sessionAbort).cl1 = q.cl1 := rfl
@[simp] theorem SeqUnit.sessionAbort_cl2 : (q.sessionAbort).cl2 = q.cl2 := rfl
@[simp] theorem SeqUnit.sessionAbort_cl3 : (q.sessionAbort).cl3 = q.cl3 := rfl
end SeqUnit_sessionAbort_fields

/-! ### SeqUnit.clearForRequest -/

section SeqUnit_clearForRequest_fields
variable (q : SeqUnit)
@[simp] theorem SeqUnit.clearForRequest_state : (q.clearForRequest).state = q.state := rfl
@[simp] theorem SeqUnit.clearForRequest_uidValid : (q.clearForRequest).uidValid = false := rfl
@[simp] theorem SeqUnit.clearForRequest_cryptoHeld :
    (q.clearForRequest).cryptoHeld = q.cryptoHeld := rfl
@[simp] theorem SeqUnit.clearForRequest_level : (q.clearForRequest).level = 0 := rfl
@[simp] theorem SeqUnit.clearForRequest_ct : (q.clearForRequest).ct = false := rfl
@[simp] theorem SeqUnit.clearForRequest_uid : (q.clearForRequest).uid = [] := rfl
@[simp] theorem SeqUnit.clearForRequest_atqa : (q.clearForRequest).atqa = q.atqa := rfl
@[simp] theorem SeqUnit.clearForRequest_sak : (q.clearForRequest).sak = 0 := rfl
@[simp] theorem SeqUnit.clearForRequest_cl1 : (q.clearForRequest).cl1 = Vector.replicate 5 0 := rfl
@[simp] theorem SeqUnit.clearForRequest_cl2 : (q.clearForRequest).cl2 = Vector.replicate 5 0 := rfl
@[simp] theorem SeqUnit.clearForRequest_cl3 : (q.clearForRequest).cl3 = Vector.replicate 5 0 := rfl
end SeqUnit_clearForRequest_fields

/-! ### SeqUnit.takeSak -/

section SeqUnit_takeSak_fields
variable (q : SeqUnit) (b : Byte)
@[simp] theorem SeqUnit.takeSak_state : (q.takeSak b).state = .selected := rfl
@[simp] theorem SeqUnit.takeSak_uidValid : (q.takeSak b).uidValid = q.uidValid := rfl
@[simp] theorem SeqUnit.takeSak_cryptoHeld : (q.takeSak b).cryptoHeld = q.cryptoHeld := rfl
@[simp] theorem SeqUnit.takeSak_level : (q.takeSak b).level = q.level := rfl
@[simp] theorem SeqUnit.takeSak_ct : (q.takeSak b).ct = q.ct := rfl
@[simp] theorem SeqUnit.takeSak_uid : (q.takeSak b).uid = q.uid := rfl
@[simp] theorem SeqUnit.takeSak_atqa : (q.takeSak b).atqa = q.atqa := rfl
@[simp] theorem SeqUnit.takeSak_sak : (q.takeSak b).sak = b := rfl
@[simp] theorem SeqUnit.takeSak_cl1 : (q.takeSak b).cl1 = q.cl1 := rfl
@[simp] theorem SeqUnit.takeSak_cl2 : (q.takeSak b).cl2 = q.cl2 := rfl
@[simp] theorem SeqUnit.takeSak_cl3 : (q.takeSak b).cl3 = q.cl3 := rfl
end SeqUnit_takeSak_fields

/-! ### SeqUnit.authenticate -/

section SeqUnit_authenticate_fields
variable (q : SeqUnit)
@[simp] theorem SeqUnit.authenticate_state : (q.authenticate).state = .authenticated := rfl
@[simp] theorem SeqUnit.authenticate_uidValid : (q.authenticate).uidValid = q.uidValid := rfl
@[simp] theorem SeqUnit.authenticate_cryptoHeld : (q.authenticate).cryptoHeld = q.cryptoHeld := rfl
@[simp] theorem SeqUnit.authenticate_level : (q.authenticate).level = q.level := rfl
@[simp] theorem SeqUnit.authenticate_ct : (q.authenticate).ct = q.ct := rfl
@[simp] theorem SeqUnit.authenticate_uid : (q.authenticate).uid = q.uid := rfl
@[simp] theorem SeqUnit.authenticate_atqa : (q.authenticate).atqa = q.atqa := rfl
@[simp] theorem SeqUnit.authenticate_sak : (q.authenticate).sak = q.sak := rfl
@[simp] theorem SeqUnit.authenticate_cl1 : (q.authenticate).cl1 = q.cl1 := rfl
@[simp] theorem SeqUnit.authenticate_cl2 : (q.authenticate).cl2 = q.cl2 := rfl
@[simp] theorem SeqUnit.authenticate_cl3 : (q.authenticate).cl3 = q.cl3 := rfl
end SeqUnit_authenticate_fields

/-! ### SeqUnit.release -/

section SeqUnit_release_fields
variable (q : SeqUnit)
@[simp] theorem SeqUnit.release_state : (q.release).state = .idle := rfl
@[simp] theorem SeqUnit.release_uidValid : (q.release).uidValid = q.uidValid := rfl
@[simp] theorem SeqUnit.release_cryptoHeld : (q.release).cryptoHeld = false := rfl
@[simp] theorem SeqUnit.release_level : (q.release).level = 0 := rfl
@[simp] theorem SeqUnit.release_ct : (q.release).ct = false := rfl
@[simp] theorem SeqUnit.release_uid : (q.release).uid = q.uid := rfl
@[simp] theorem SeqUnit.release_atqa : (q.release).atqa = q.atqa := rfl
@[simp] theorem SeqUnit.release_sak : (q.release).sak = q.sak := rfl
@[simp] theorem SeqUnit.release_cl1 : (q.release).cl1 = q.cl1 := rfl
@[simp] theorem SeqUnit.release_cl2 : (q.release).cl2 = q.cl2 := rfl
@[simp] theorem SeqUnit.release_cl3 : (q.release).cl3 = q.cl3 := rfl
end SeqUnit_release_fields

/-! ### BmeUnit.putTemp -/

section BmeUnit_putTemp_fields
variable (b : BmeUnit) (r : Int × Int)
@[simp] theorem BmeUnit.putTemp_cal : (b.putTemp r).cal = b.cal := rfl
@[simp] theorem BmeUnit.putTemp_valid : (b.putTemp r).valid = b.valid := rfl
@[simp] theorem BmeUnit.putTemp_wmask : (b.putTemp r).wmask = b.wmask := rfl
@[simp] theorem BmeUnit.putTemp_tfineValid : (b.putTemp r).tfineValid = true := rfl
@[simp] theorem BmeUnit.putTemp_tfine : (b.putTemp r).tfine = toWord r.2 := rfl
@[simp] theorem BmeUnit.putTemp_tOut : (b.putTemp r).tOut = toWord r.1 := rfl
@[simp] theorem BmeUnit.putTemp_pOut : (b.putTemp r).pOut = b.pOut := rfl
@[simp] theorem BmeUnit.putTemp_hOut : (b.putTemp r).hOut = b.hOut := rfl
end BmeUnit_putTemp_fields

/-! ### Working copies -/

theorem State.working_none {s : State} (h : s.work = none) : s.working = s.regs := by
  simp [State.working, h]

theorem State.working_some {s : State} {w : Regs} (h : s.work = some w) : s.working = w := by
  simp [State.working, h]

@[simp] theorem State.ask_working (s : State) (w : Regs) (x : Stage) (p : Prim) (r : FeReq) :
    (s.ask w x p r).working = w := rfl

@[simp] theorem State.setPoll_working (s : State) (n : Nat) : (s.setPoll n).working = s.working :=
  rfl

@[simp] theorem State.holdRx_working (s : State) (bs : List Byte) :
    (s.holdRx bs).working = s.working := rfl

/-! ### Issuing a request -/

theorem State.issue_of_not_authStart (s : State) (r : FeReq) (h : ∀ d, r ≠ .authStart d) :
    s.issue r = { s with feWait := true } := by
  cases r <;> first | rfl | exact absurd rfl (h _)

@[simp] theorem State.issue_authStart (s : State) (d : List Byte) :
    s.issue (.authStart d) =
      { s with feWait := true, regs := s.regs.holdCrypto, work := s.work.map Regs.holdCrypto } := rfl

/-- Whatever the request, issuing it touches only `fe_wait` and CRYPTO_HELD. -/
theorem State.issue_frame (s : State) (r : FeReq) :
    s.issue r = { s with feWait := true, regs := (s.issue r).regs, work := (s.issue r).work } := by
  cases r <;> rfl

end Sys2Proof.Machine
end

