-- ==== Sys2Proof/Laws/Ops.lean ====
section
/-! SUPPORT. One inversion lemma for each shared operation: if it answers a next state, then one of
the listed cases holds. Proofs about commands cite these instead of unfolding the operation. -/

namespace Sys2Proof.Machine

/-! ### Ends of a command -/

@[simp] theorem succeed_eq (s : State) (w : Regs) :
    succeed s w = .next (s.finish w .ok .none .none) := rfl

@[simp] theorem failWith_eq (s : State) (w : Regs) (c : ErrClass) (k : Cause) :
    failWith s w c k = .next (s.finish w .error c k) := rfl

@[simp] theorem notag_eq (s : State) (w : Regs) :
    notag s w = .next (s.finish w.tagGone .notag .none .noResponse) := rfl

@[simp] theorem seqFail_eq (s : State) (w : Regs) (c : ErrClass) (k : Cause) :
    seqFail s w c k = .next (s.finish w.sessionAbort .error c k) := rfl

@[simp] theorem refuse_eq (s : State) (c : ErrClass) (k : Cause) :
    refuse s c k = .next (s.finish s.regs .error c k) := rfl

@[simp] theorem illegal_eq (s : State) (v : Verdict) :
    illegal s v = .next (s.finish s.regs .error .command (verdictCause v)) := rfl

/-- The end of a pressure step publishes the guard's 0, a fitting result, or the range failure's 0
(R137, R138, R146). -/
theorem pressFinish_cases {s t : State} {w : Regs} {r : Option Int}
    (h : pressFinish s w r = .next t) :
    (r = none ∧ t = s.finish (w.setBme { w.bme with pOut := 0 }) .error .data .divZeroGuard) ∨
    (∃ p, r = some p ∧ fit32 p = true ∧
      t = s.finish (w.setBme { w.bme with pOut := toWord p }) .ok .none .none) ∨
    (∃ p, r = some p ∧ fit32 p = false ∧
      t = s.finish (w.setBme { w.bme with pOut := 0 }) .error .data .resultRange) := by
  cases r with
  | none => simp only [pressFinish, failWith_eq, Host.Outcome.next.injEq] at h; simp [← h]
  | some p =>
    simp only [pressFinish, failWith_eq, succeed_eq] at h
    split at h <;> simp_all

/-! ### Helper sequences -/

/-- What one answer does inside `crc16` (R90). -/
theorem crcStep_cases {s t : State} {w : Regs} {x : Stage} {p : Prim} {a : FeAns}
    {fail : ErrClass → Cause → Out} {ret : BitVec 16 → Out}
    (h : crcStep s w x p a fail ret = .next t) :
    (a = .busfail ∧ fail .transport .feBus = .next t) ∨
    (p = .start ∧ a = .ack ∧ t = (s.setPoll 1).ask w x .poll .crcPoll) ∨
    (p = .poll ∧ a = .done ∧ t = s.ask w x .read .crcRead) ∨
    (p = .poll ∧ a = .notdone ∧ s.pollcnt = Config.crcPollMax ∧
      fail .protocol .crcPollTimeout = .next t) ∨
    (p = .poll ∧ a = .notdone ∧ s.pollcnt ≠ Config.crcPollMax ∧
      t = (s.setPoll (s.pollcnt + 1)).ask w x .poll .crcPoll) ∨
    (∃ lo hi, p = .read ∧ a = .res lo hi ∧ ret (pair16 lo hi) = .next t) := by
  unfold crcStep at h
  split at h
  · exact .inl ⟨rfl, h⟩
  · simp_all
  · simp_all
  · split at h <;> simp_all
  · simp_all
  · cases h

/-- What one answer does inside `trx` (R91). -/
theorem trxStep_cases {s t : State} {w : Regs} {x : Stage} {p : Prim} {a : FeAns}
    {ret : List Byte → Nat → Out} (h : trxStep s w x p a ret = .next t) :
    (a = .busfail ∧ t = s.finish w.sessionAbort .error .transport .feBus) ∨
    (p = .start ∧ a = .ack ∧ t = (s.setPoll 1).ask w x .poll .trxPoll) ∨
    (p = .poll ∧ a = .noresp ∧ t = s.finish w.tagGone .notag .none .noResponse) ∨
    (p = .poll ∧ a = .fault ∧ t = s.finish w.sessionAbort .error .protocol .feFault) ∨
    (p = .poll ∧ a = .notdone ∧ s.pollcnt = s.params.fePollMax ∧
      t = s.finish w.sessionAbort .error .protocol .fePollTimeout) ∨
    (p = .poll ∧ a = .notdone ∧ s.pollcnt ≠ s.params.fePollMax ∧
      t = (s.setPoll (s.pollcnt + 1)).ask w x .poll .trxPoll) ∨
    (p = .poll ∧ a = .done ∧ t = s.ask w x .read .trxRead) ∨
    (∃ bytes bits, p = .read ∧ a = .rx bytes bits ∧ ret bytes bits = .next t) := by
  unfold trxStep at h
  split at h
  · simp_all
  · simp_all
  · simp_all
  · simp_all
  · split at h <;> simp_all
  · simp_all
  · simp_all
  · cases h

/-- What one answer does inside `auth` (R92). -/
theorem authStep_cases {s t : State} {w : Regs} {p : Prim} {a : FeAns} {ret : Out}
    (h : authStep s w p a ret = .next t) :
    (a = .busfail ∧ t = s.finish w.sessionAbort .error .transport .feBus) ∨
    (p = .start ∧ a = .ack ∧ t = (s.setPoll 1).ask w .auth .poll .authPoll) ∨
    (p = .poll ∧ a = .noresp ∧ t = s.finish w.tagGone .notag .none .noResponse) ∨
    (p = .poll ∧ a = .fault ∧ t = s.finish w.sessionAbort .error .protocol .feFault) ∨
    (p = .poll ∧ a = .notdone ∧ s.pollcnt = s.params.fePollMax ∧
      t = s.finish w.sessionAbort .error .protocol .fePollTimeout) ∨
    (p = .poll ∧ a = .notdone ∧ s.pollcnt ≠ s.params.fePollMax ∧
      t = (s.setPoll (s.pollcnt + 1)).ask w .auth .poll .authPoll) ∨
    (p = .poll ∧ a = .done ∧ t = s.ask w .auth .read .cryptoStatus) ∨
    (p = .read ∧ a = .off ∧ t = s.finish w.sessionAbort .error .protocol .authFailed) ∨
    (p = .read ∧ a = .on ∧ ret = .next t) := by
  unfold authStep at h
  split at h
  · simp_all
  · simp_all
  · simp_all
  · simp_all
  · split at h <;> simp_all
  · simp_all
  · simp_all
  · simp_all
  · cases h

/-- Every request may be answered BUSFAIL (R79). -/
@[simp] theorem accepts_busfail (r : FeReq) : r.accepts .busfail = true := by cases r <;> rfl

/-- A received frame carries the bytes of its bit count (R85). -/
@[simp] theorem accepts_trxRead (bytes : List Byte) (bits : Nat) :
    FeReq.trxRead.accepts (.rx bytes bits) = (bytes.length == (bits + 7) / 8) := rfl

@[simp] theorem crcCall_eq (s : State) (w : Regs) (x : Stage) (data : List Byte) :
    crcCall s w x data = .next (s.ask w x .start (.crcStart data)) := rfl

@[simp] theorem trxCall_eq (s : State) (w : Regs) (x : Stage) (tx : List Byte) (n : BitVec 3) :
    trxCall s w x tx n = .next (s.ask w x .start (.trxStart tx n)) := rfl

@[simp] theorem authCall_eq (s : State) (w : Regs) (d : List Byte) :
    authCall s w d = .next (s.ask w .auth .start (.authStart d)) := rfl

/-- A command resumes either at its start or at a primitive whose answer is in hand (R120). -/
theorem resume_cases {s t : State} {first : Out} {next : Stage → Prim → FeAns → Out}
    (h : resume s first next = .next t) :
    (s.pcSeq = .start ∧ first = .next t) ∨
    (∃ x p a, s.pcSeq = .at x p ∧ s.feAns = some a ∧ next x p a = .next t) := by
  unfold resume at h
  split at h
  · next hp => exact .inl ⟨hp, h⟩
  · next x p hp =>
    split at h
    · next a ha => exact .inr ⟨x, p, a, hp, ha, h⟩
    · cases h

theorem resume_start {s : State} (hp : s.pcSeq = .start) (first : Out)
    (next : Stage → Prim → FeAns → Out) : resume s first next = first := by
  simp [resume, hp]

theorem resume_at {s : State} {x : Stage} {p : Prim} {a : FeAns} (hp : s.pcSeq = .at x p)
    (ha : s.feAns = some a) (first : Out) (next : Stage → Prim → FeAns → Out) :
    resume s first next = next x p a := by
  simp [resume, hp, ha]

/-! ### Agents -/

/-- What a front-end step does (R77, R116, R236). -/
theorem frontEnd_cases {a : FeAns} {s t : State} (h : frontEnd a s = .next t) :
    (s.feDiscard = true ∧ t = { s with feDiscard := false }) ∨
    (∃ r, s.feDiscard = false ∧ s.feWait = true ∧ s.feReq = some r ∧ r.accepts a = true ∧
      t = { s with feWait := false, feReq := none, feAns := some a }) := by
  unfold frontEnd at h
  split at h
  · simp_all
  · split at h
    · split at h <;> simp_all
    · cases h

/-- What the engine's turn does (R116, R120, R236). -/
theorem engineStep_cases {s t : State} (h : engineStep s = .next t) :
    (s.engineEnabled = false ∧ t = s) ∨
    (∃ r, s.engineEnabled = true ∧ s.feReq = some r ∧ s.feDiscard = true ∧ t = s) ∨
    (∃ r, s.engineEnabled = true ∧ s.feReq = some r ∧ s.feDiscard = false ∧ t = s.issue r) ∨
    (∃ v, s.engineEnabled = true ∧ s.feReq = none ∧ decode s.cur = .error v ∧
      t = s.finish s.regs .error .command (verdictCause v)) ∨
    (∃ i, s.engineEnabled = true ∧ s.feReq = none ∧ decode s.cur = .ok i ∧
      exec i s = .next t) := by
  unfold engineStep at h
  split at h
  · split at h
    · split at h <;> simp_all
    · unfold runWord at h
      split at h <;> simp_all
  · simp_all

/-- A host read answers the window's word and changes no register (R64). -/
theorem hostRead_cases {off bytes : Nat} {s t : State} (h : hostRead off bytes s = .next t) :
    accessOk off bytes = true ∧ t = { s with hostData := some (s.window off) } := by
  unfold hostRead at h
  split at h <;> simp_all

/-- A host write is the window's write (R65). -/
theorem hostWrite_cases {off bytes : Nat} {v : Word} {s t : State}
    (h : hostWrite off bytes v s = .next t) :
    accessOk off bytes = true ∧ t = s.writeWindow off v := by
  unfold hostWrite at h
  split at h <;> simp_all

/-- A step is the engine's turn or the environment's next move (R116). -/
theorem step_cases {s t : State} (h : step s = .next t) :
    (s.env = [] ∧ engineStep s = .next t) ∨
    (∃ e rest, s.env = e :: rest ∧ act e { s with env := rest } = .next t) := by
  unfold step at h
  split at h <;> simp_all

/-- An operand write reaches the register only while the block is idle (R57). -/
theorem operandWrite_cases (s : State) (f : Regs → Regs) :
    (s.busy = true ∧ s.operandWrite f = { s with wbusy := true }) ∨
    (s.busy = false ∧ s.operandWrite f = { s with regs := f s.regs }) := by
  unfold State.operandWrite
  cases hb : s.busy <;> simp

/-- A `CMD` write is an accept while idle and an overrun otherwise (R117, R118). -/
theorem writeCmd_cases (s : State) (v : Word) :
    (s.busy = true ∧ s.writeCmd v = s.overrunCmd) ∨
    (s.busy = false ∧ s.writeCmd v = s.accept v) := by
  unfold State.writeCmd
  cases hb : s.busy <;> simp

/-! ### Exchanges of a running command -/

/-- With no request due, the engine's turn runs the accepted command (R120). -/
theorem engineStep_runs {s : State} {i : Instr} (hp : s.phase = .exec) (hw : s.feWait = false)
    (hr : s.feReq = none) (hi : decode s.cur = .ok i) : engineStep s = exec i s := by
  simp [engineStep, State.engineEnabled, runWord, *]

/-- One exchange of a conversation: the computation that prepares a request other than
`fe.auth_start`, the request, and its answer (R120). -/
theorem converse_cons {a : FeAns} {s t : State} {r : FeReq} (as : List FeAns)
    (h : engineStep s = .next t) (hp : t.phase = .exec) (hw : t.feWait = false)
    (hd : t.feDiscard = false) (hr : t.feReq = some r) (ha : r.accepts a = true)
    (hn : ∀ d, r ≠ .authStart d) :
    Safety.converse (a :: as) s =
      Safety.converse as { t with feWait := false, feReq := none, feAns := some a } := by
  have he : engineStep t = .next { t with feWait := true } := by
    cases r <;> simp_all [engineStep, State.engineEnabled, State.issue]
  have hf : frontEnd a { t with feWait := true } =
      .next { t with feWait := false, feReq := none, feAns := some a } := by
    simp [frontEnd, hd, hr, ha]
  simp only [Safety.converse, h, Safety.andThen, he, hf]

/-- A turn of the engine against a conforming front-end. -/
theorem serveConforming_engine {fn : List Byte → BitVec 16} {n : Nat} {data : List Byte}
    {s t : State} (hp : s.phase = .exec) (hw : s.feWait = false) (h : engineStep s = .next t) :
    Safety.serveConforming fn (n + 1) data s = Safety.serveConforming fn n data t := by
  simp [Safety.serveConforming, hp, hw, h, Safety.andThen]

/-- An answer of a conforming front-end, which keeps the data of an `fe.crc_start`. -/
theorem serveConforming_answer {fn : List Byte → BitVec 16} {n : Nat} {data : List Byte}
    {s t : State} {r : FeReq} (hp : s.phase = .exec) (hw : s.feWait = true) (hr : s.feReq = some r)
    (h : frontEnd (Safety.conformingAns fn data r).2 s = .next t) :
    Safety.serveConforming fn (n + 1) data s =
      Safety.serveConforming fn n (Safety.conformingAns fn data r).1 t := by
  rw [Safety.serveConforming, if_neg (by simp [hp])]
  simp only [hw, hr, h, Safety.andThen]

end Sys2Proof.Machine
end

