-- ==== Sys2Proof/Certificates/Slice0/Obligations.lean ====
section
/-! DEFINITION. The statements about the model, one `def Obligations.<Name> : Prop` each. They cite
the numbered rules of spec/; OBLIGATIONS.json gives each its rule and quotation. The next state of a
command is given as an equation, so it says the whole frame: `State.finish` and `State.ask` name every
field they change (`FinishReportsAndPublishes`). -/

open Sys2Proof Sys2Proof.Machine Sys2Proof.Safety

/-! ### Encoding -/

/-- R96, R97, R100, R107: the word of every legal command decodes to it, at every operand value. -/
def Obligations.LegalCommandsDecodeFromTheirWords : Prop :=
  ∀ i : Instr, i.wf = true → decode (encode i) = .ok i

/-- R103: every word is the one word of a legal command, or has one illegal verdict. -/
def Obligations.EveryWordIsACommandOrIllegal : Prop :=
  ∀ w : Word,
    (∃ i, i.wf = true ∧ decode w = .ok i ∧ encode i = w ∧
      ∀ j, j.wf = true → encode j = w → j = i) ∨
    (∃ v, decode w = .error v ∧ ∀ j, j.wf = true → encode j ≠ w)

/-- R101: the three legality failures, their order, what each reports, and that a word that passes
all three is legal. -/
def Obligations.LegalityChecksInOrder : Prop :=
  verdictCause .unknownOpcode = .cmdUnknownOpcode ∧
  verdictCause .reservedBits = .cmdReservedBits ∧ verdictCause .badField = .cmdBadField ∧
  ∀ w : Word,
    (∀ (s : State) (v : Verdict), decode w = .error v →
      runWord w s = .next (s.finish s.regs .error .command (verdictCause v))) ∧
    ((∀ v, decode w ≠ .error v) → ∃ i, decode w = .ok i ∧ i.op.code = wordOp w) ∧
    (decode w = .error .unknownOpcode ↔ ∀ o : Op, o.code ≠ wordOp w) ∧
    (decode w = .error .reservedBits ↔
      ∃ o : Op, o.code = wordOp w ∧
        (wordRsv w ≠ 0 ∨ wordF w &&& ~~~o.fBits ≠ 0 ∨ (o.hasAddr = false ∧ wordA w ≠ 0))) ∧
    (decode w = .error .badField ↔
      (w = 0x00000041 ∨ w = 0x00000042))

/-- R110: the example encodings, and the three illegal words. -/
def Obligations.ExampleWordsDecodeAsListed : Prop :=
  decode 0x00000000 = .ok .nop ∧ decode 0x00000015 = .ok .bmeAll ∧
  decode 0x00000022 = .ok .msComp ∧ decode 0x00000140 = .ok (.request .wupA) ∧
  decode 0x00000241 = .ok (.anticoll 2) ∧ decode 0x00000342 = .ok (.select 3) ∧
  decode 0x00000043 = .ok (.scan .reqA) ∧ decode 0x00070144 = .ok (.auth .keyB 0x07) ∧
  decode 0x00040146 = .ok (.read .classic 4) ∧ decode 0x00040046 = .ok (.read .ntag 4) ∧
  decode 0x00080047 = .ok (.writeClassic 8) ∧ decode 0x00270048 = .ok (.writeNtag 0x27) ∧
  decode 0x00000045 = .ok .stopCrypto ∧ decode 0x00000041 = .error .badField ∧
  decode 0x00010012 = .error .reservedBits ∧ decode 0x000000FF = .error .unknownOpcode

/-- R102: an illegal word is accepted like any other and finishes at its first block step with the
failure of its verdict, changing no register and making no request. -/
def Obligations.IllegalWordIsAcceptedAndReported : Prop :=
  ∀ (s : State) (w : Word) (v : Verdict), s.phase = .idle → s.feWait = false → s.feReq = none →
    decode w = .error v →
    hostWrite 0x008 4 w s = .next (s.accept w) ∧ (s.accept w).busy = true ∧
    (s.accept w).done = false ∧ (s.accept w).lastOp = wordOp w ∧ (s.accept w).window 0x008 = w ∧
    engineStep (s.accept w) = .next ((s.accept w).finish s.regs .error .command (verdictCause v))

/-! ### The step -/

/-- R116, R217: the environment's next move decides whose step it is, and that agent alone acts; at
a command's internal computation the engine's turn runs the meaning of the decoded command. The list
of moves, and that an empty one is the engine's turn, are the model's choice
(notes/assumptions/2.md). The power-on move is `PowerOnResetValues`'s. -/
def Obligations.StepRunsTheAcceptedCommand : Prop :=
  (∀ (s : State) (i : Instr), s.phase = .exec → s.feWait = false → s.feReq = none →
    decode s.cur = .ok i →
    (s.env = [] → step s = exec i s) ∧
    (∀ rest, s.env = .engine :: rest → step s = exec i { s with env := rest })) ∧
  ∀ (s : State) (rest : List Event),
    (s.env = [] → step s = engineStep s) ∧
    (s.env = .engine :: rest → step s = engineStep { s with env := rest }) ∧
    (∀ off bytes, s.env = .hostRead off bytes :: rest →
      step s = hostRead off bytes { s with env := rest }) ∧
    (∀ off bytes v, s.env = .hostWrite off bytes v :: rest →
      step s = hostWrite off bytes v { s with env := rest }) ∧
    (∀ a, s.env = .answer a :: rest → step s = frontEnd a { s with env := rest })

/-- A prepared request is made by the engine's next turn, unless a late answer is still to be
discarded: `fe_wait` becomes 1 (R120, R236), and `fe.auth_start` alone also writes CRYPTO_HELD, in
the registers and in the working copies (R191, R55). The front-end's answer then reaches the next
block step (R120). That a turn in which no block step is enabled changes nothing is the model's
choice (notes/assumptions/11.md), and that an answer outside the alphabet is refused is its reading
(notes/assumptions/12.md). -/
def Obligations.RequestsAreMadeAndAnswered : Prop :=
  ∀ (s : State) (r : FeReq) (a : FeAns), s.phase = .exec → s.feReq = some r →
    (s.feWait = false → s.feDiscard = false →
      (∀ d, r = .authStart d → engineStep s = .next { s with
        feWait := true
        regs := { s.regs with seq := { s.regs.seq with cryptoHeld := true } }
        work := s.work.map fun w => { w with seq := { w.seq with cryptoHeld := true } } }) ∧
      ((∀ d, r ≠ .authStart d) → engineStep s = .next { s with feWait := true })) ∧
    (s.feWait = true → engineStep s = .next s) ∧
    (s.feDiscard = true → engineStep s = .next s) ∧
    (s.feWait = true → s.feDiscard = false → r.accepts a = true →
      frontEnd a s = .next { s with feWait := false, feReq := none, feAns := some a }) ∧
    (s.feWait = true → s.feDiscard = false → r.accepts a = false →
      frontEnd a s = .refused .answerOutsideAlphabet)

/-! ### The lifecycle of a command -/

/-- R122, R218: what finish publishes and reports, and what it leaves unchanged; where it publishes
the registers as they are (a refusal), the host sees only STATUS and IRQ change (R128). That
`pc_seq`, which R122 does not name, keeps its value is the model's choice (notes/assumptions/15.md).
-/
def Obligations.FinishReportsAndPublishes : Prop :=
  ∀ (s : State) (w : Regs) (r : Result) (c : ErrClass) (k : Cause),
    let t := s.finish w r c k
    t.regs = w ∧ t.result = r ∧ t.errClass = c ∧ t.cause = k ∧ t.busy = false ∧ t.done = true ∧
    t.irqPend = true ∧ t.phase = .idle ∧ t.feWait = false ∧ t.pollcnt = 0 ∧ t.feReq = none ∧
    t.feAns = none ∧ t.work = none ∧ t.rxHeld = [] ∧
    t.params = s.params ∧ t.cur = s.cur ∧ t.opsnap = s.opsnap ∧ t.overrun = s.overrun ∧
    t.wbusy = s.wbusy ∧ t.irqEn = s.irqEn ∧ t.pcSeq = s.pcSeq ∧ t.feDiscard = s.feDiscard ∧
    t.hostData = s.hostData ∧ t.env = s.env ∧
    (w = s.regs → ∀ off, off ≠ 0x00C → off ≠ 0x010 → t.window off = s.window off)

/-- R117 and R118: a CMD write accepts while idle, the legality check being the command's first
block step, and only sets OVERRUN while busy. -/
def Obligations.CmdWriteAcceptsOrOverruns : Prop :=
  ∀ (s : State) (w : Word),
    (s.phase = .idle → ∃ t, hostWrite 0x008 4 w s = .next t ∧
      t = { s with cur := w, done := false, opsnap := s.regs.ops, phase := .exec, pcSeq := .start } ∧
      t.busy = true ∧ t.window 0x008 = w ∧ t.lastOp = w.extractLsb' 0 8 ∧
      (s.feWait = false → s.feReq = none → engineStep t = match decode w with
        | .ok i => exec i t
        | .error v => .next (t.finish t.regs .error .command (verdictCause v)))) ∧
    (s.phase = .exec → hostWrite 0x008 4 w s = .next { s with overrun := true })

/-- R57: while busy a host write to an operand register sets WBUSY and nothing else; a host write to
a read-only register is ignored in every phase. -/
def Obligations.OperandWritesAreLockedWhileBusy : Prop :=
  ∀ (s : State) (v : Word) (off : Nat) (r : Reg), Reg.ofOffset off = some r →
    (isOperand r = true → s.phase = .exec →
      hostWrite off 4 v s = .next { s with wbusy := true }) ∧
    (isOperand r = true → s.phase = .idle →
      ∃ t, hostWrite off 4 v s = .next t ∧ t.wbusy = s.wbusy) ∧
    (isReadOnly r = true → hostWrite off 4 v s = .next s)

/-- R55: until a command finishes, no register the host reads changes, but for the direct write of
CRYPTO_HELD that goes with AUTH's first request. -/
def Obligations.WorkingCopiesStayHiddenUntilFinish : Prop :=
  ∀ s t : State, engineStep s = .next t → t.phase = .exec →
    t.regs = s.regs ∨
    (∃ d, s.feReq = some (.authStart d) ∧ t.feWait = true ∧
      t.regs = { s.regs with seq := { s.regs.seq with cryptoHeld := true } })

/-- R63, R64, R58: a defined host read returns the window's word and changes nothing; the write-only
registers and reserved offsets read 0; and what each register a command publishes reads as (R22,
R24, R31 to R34, R38, R41, R45 to R53; STATUS and IRQ are `StatusAndIrqWrites`'s, the shadows and
raw samples those of the two statements on them). That every other access is refused is the model's
reading of R63 (notes/assumptions/12.md), and `hostData` its own field (notes/assumptions/4.md). -/
def Obligations.HostReadsAreIdempotent : Prop :=
  ∀ (s : State) (off bytes : Nat),
    let q := s.regs.seq
    let uidByte := fun (i : Nat) => (s.window (0x140 + 4 * (i / 4))).extractLsb' (8 * (i % 4)) 8
    let clBytes := fun (o : Nat) (b : Vector Byte 5) =>
      s.window o = b[3] ++ b[2] ++ b[1] ++ b[0] ∧ s.window (o + 4) = b[4].setWidth 32
    (bytes = 4 → off % 4 = 0 → off < 1024 →
      hostRead off bytes s = .next { s with hostData := some (s.window off) }) ∧
    (¬(bytes = 4 ∧ off % 4 = 0 ∧ off < 1024) →
      hostRead off bytes s = .refused .hostAccess ∧
      ∀ v, hostWrite off bytes v s = .refused .hostAccess) ∧
    s.window 0x110 = 0 ∧ s.window 0x114 = 0 ∧ s.window 0x004 = 0 ∧
    (Reg.ofOffset off = none → s.window off = 0 ∧ ∀ v, s.writeWindow off v = s) ∧
    s.window 0x000 = 0x50430700 ∧ s.window 0x008 = s.cur ∧
    ((s.window 0x014).extractLsb' 0 3 = match q.state with
      | .idle => 0
      | .requested => 1
      | .anticoll => 2
      | .selected => 3
      | .authenticated => 4) ∧
    (s.window 0x014).getLsbD 3 = q.uidValid ∧ (s.window 0x014).getLsbD 4 = q.cryptoHeld ∧
    (s.window 0x014).extractLsb' 5 2 = q.level ∧ (s.window 0x014).getLsbD 7 = q.ct ∧
    (s.window 0x014).extractLsb' 8 4 = BitVec.ofNat 4 q.uid.length ∧
    (s.window 0x014).extractLsb' 12 20 = 0 ∧
    (s.window 0x018).getLsbD 0 = s.regs.bme.valid ∧ (s.window 0x018).getLsbD 1 = s.regs.ms.valid ∧
    (s.window 0x018).getLsbD 2 = s.regs.bme.tfineValid ∧ (s.window 0x018).extractLsb' 3 5 = 0 ∧
    (s.window 0x018).extractLsb' 8 7 = s.regs.ms.wmask ∧ (s.window 0x018).extractLsb' 15 17 = 0 ∧
    (s.window 0x01C).extractLsb' 0 19 = s.regs.bme.wmask ∧ (s.window 0x01C).extractLsb' 19 13 = 0 ∧
    s.window 0x08C = s.regs.bme.cal.h4.signExtend 32 ∧
    s.window 0x090 = s.regs.bme.cal.h5.signExtend 32 ∧
    s.window 0x0B0 = s.regs.bme.tfine ∧ s.window 0x0B4 = s.regs.bme.tOut ∧
    s.window 0x0B8 = s.regs.bme.pOut ∧ s.window 0x0BC = s.regs.bme.hOut ∧
    s.window 0x0E8 = s.regs.ms.temp ∧ s.window 0x0EC = s.regs.ms.press ∧
    s.window 0x100 = s.regs.ops.len.setWidth 32 ∧ s.window 0x104 = s.regs.crcRes.setWidth 32 ∧
    (s.window 0x108).extractLsb' 0 16 = q.atqa ∧ (s.window 0x108).extractLsb' 16 8 = q.sak ∧
    (s.window 0x108).extractLsb' 24 8 = 0 ∧ s.window 0x10C = s.regs.ops.authUid ∧
    (∀ i, i < 32 → (s.window (0x120 + 4 * (i / 4))).extractLsb' (8 * (i % 4)) 8 =
      dbufAt s.regs.ops.dbuf i) ∧
    (∀ i, i < 10 → i < q.uid.length → uidByte i = byteAt q.uid i) ∧
    (∀ i, i < 12 → 10 ≤ i ∨ q.uid.length ≤ i → uidByte i = 0) ∧
    clBytes 0x150 q.cl1 ∧ clBytes 0x158 q.cl2 ∧ clBytes 0x160 q.cl3

/-! ### Operand and control registers -/

/-- R36 (with R35 and R42): while idle a shadow register stores the low bits of its width, reads
back with its sign (the MS5637 ones unsigned), sets its own mask bit in the same step, and leaves
the other shadows, the other mask bits, the active set and every other field of the state alone;
while busy the write only sets WBUSY. -/
def Obligations.ShadowWritesReadBack : Prop :=
  (∀ (s : State) (k : BmeCoef) (v : Word), s.phase = .idle →
    ∃ t, hostWrite (0x040 + 4 * k.index) 4 v s = .next t ∧
      t = { s with regs := { s.regs with
        ops := { s.regs.ops with bmeShadow := s.regs.ops.bmeShadow.write v k }
        bme := { s.regs.bme with wmask := s.regs.bme.wmask ||| BitVec.twoPow 19 k.index } } } ∧
      t.window (0x040 + 4 * k.index) =
        (if coefSigned k then (v.setWidth (coefWidth k)).signExtend 32
         else (v.setWidth (coefWidth k)).setWidth 32) ∧
      (∀ j, j ≠ k → t.window (0x040 + 4 * j.index) = s.window (0x040 + 4 * j.index)) ∧
      (∀ n, t.regs.bme.wmask.getLsbD n = (s.regs.bme.wmask.getLsbD n || n == k.index)) ∧
      t.regs.bme.cal = s.regs.bme.cal ∧ t.regs.bme.tfineValid = s.regs.bme.tfineValid) ∧
  (∀ (s : State) (i : Fin 7) (v : Word), s.phase = .idle →
    ∃ t, hostWrite (0x0C0 + 4 * i.val) 4 v s = .next t ∧
      t = { s with regs := { s.regs with
        ops := { s.regs.ops with msShadow := s.regs.ops.msShadow.set i (v.setWidth 16) }
        ms := { s.regs.ms with wmask := s.regs.ms.wmask ||| BitVec.twoPow 7 i.val } } } ∧
      t.window (0x0C0 + 4 * i.val) = (v.setWidth 16).setWidth 32 ∧
      (∀ j : Fin 7, j ≠ i → t.window (0x0C0 + 4 * j.val) = s.window (0x0C0 + 4 * j.val)) ∧
      (∀ n, t.regs.ms.wmask.getLsbD n = (s.regs.ms.wmask.getLsbD n || n == i.val)) ∧
      t.regs.ms.cal = s.regs.ms.cal) ∧
  (∀ s : State,
    let b := s.regs.ops.bmeShadow
    let m := s.regs.ops.msShadow
    s.window 0x040 = b.t1.setWidth 32 ∧ s.window 0x044 = b.t2.signExtend 32 ∧
    s.window 0x048 = b.t3.signExtend 32 ∧ s.window 0x04C = b.p1.setWidth 32 ∧
    s.window 0x050 = b.p2.signExtend 32 ∧ s.window 0x054 = b.p3.signExtend 32 ∧
    s.window 0x058 = b.p4.signExtend 32 ∧ s.window 0x05C = b.p5.signExtend 32 ∧
    s.window 0x060 = b.p6.signExtend 32 ∧ s.window 0x064 = b.p7.signExtend 32 ∧
    s.window 0x068 = b.p8.signExtend 32 ∧ s.window 0x06C = b.p9.signExtend 32 ∧
    s.window 0x070 = b.h1.setWidth 32 ∧ s.window 0x074 = b.h2.signExtend 32 ∧
    s.window 0x078 = b.h3.setWidth 32 ∧ s.window 0x07C = b.hpk0.setWidth 32 ∧
    s.window 0x080 = b.hpk1.setWidth 32 ∧ s.window 0x084 = b.hpk2.setWidth 32 ∧
    s.window 0x088 = b.h6.signExtend 32 ∧ s.window 0x0C0 = m.c0.setWidth 32 ∧
    s.window 0x0C4 = m.c1.setWidth 32 ∧ s.window 0x0C8 = m.c2.setWidth 32 ∧
    s.window 0x0CC = m.c3.setWidth 32 ∧ s.window 0x0D0 = m.c4.setWidth 32 ∧
    s.window 0x0D4 = m.c5.setWidth 32 ∧ s.window 0x0D8 = m.c6.setWidth 32) ∧
  (∀ (s : State) (k : BmeCoef) (i : Fin 7) (v : Word), s.phase = .exec →
    hostWrite (0x040 + 4 * k.index) 4 v s = .next { s with wbusy := true } ∧
    hostWrite (0x0C0 + 4 * i.val) 4 v s = .next { s with wbusy := true })

/-- R39, R44 (with R40), R46, R49, R50: the raw registers, LEN, AUTH_UID and the key registers reset
to 0 and store the low bits of their widths (KEY_HI its low 16), the raw ones read them
zero-extended; of them only a RAW_T write clears TFINE_VALID; while busy the write only sets WBUSY.
-/
def Obligations.RawWritesStoreTheirWidths : Prop :=
  State.reset.regs.ops.keyLo = 0 ∧ State.reset.regs.ops.keyHi = 0 ∧
  (∀ off ∈ [0x0A0, 0x0A4, 0x0A8, 0x0E0, 0x0E4, 0x100, 0x10C, 0x110, 0x114],
    State.reset.window off = 0 ∧
    ∀ (s : State) (v : Word), s.phase = .exec →
      hostWrite off 4 v s = .next { s with wbusy := true }) ∧
  ∀ (s : State) (v : Word),
    s.window 0x0A0 = s.regs.ops.rawT.setWidth 32 ∧ s.window 0x0A4 = s.regs.ops.rawP.setWidth 32 ∧
    s.window 0x0A8 = s.regs.ops.rawH.setWidth 32 ∧ s.window 0x0E0 = s.regs.ops.d1.setWidth 32 ∧
    s.window 0x0E4 = s.regs.ops.d2.setWidth 32 ∧
    (s.phase = .idle →
      hostWrite 0x0A0 4 v s = .next { s with regs :=
        { s.regs with
          ops := { s.regs.ops with rawT := v.setWidth 20 }
          bme := { s.regs.bme with tfineValid := false } } } ∧
      hostWrite 0x0A4 4 v s =
        .next { s with regs := { s.regs with ops := { s.regs.ops with rawP := v.setWidth 20 } } } ∧
      hostWrite 0x0A8 4 v s =
        .next { s with regs := { s.regs with ops := { s.regs.ops with rawH := v.setWidth 16 } } } ∧
      hostWrite 0x0E0 4 v s =
        .next { s with regs := { s.regs with ops := { s.regs.ops with d1 := v.setWidth 24 } } } ∧
      hostWrite 0x0E4 4 v s =
        .next { s with regs := { s.regs with ops := { s.regs.ops with d2 := v.setWidth 24 } } } ∧
      hostWrite 0x100 4 v s =
        .next { s with regs := { s.regs with ops := { s.regs.ops with len := v.setWidth 6 } } } ∧
      hostWrite 0x10C 4 v s =
        .next { s with regs := { s.regs with ops := { s.regs.ops with authUid := v } } } ∧
      hostWrite 0x110 4 v s =
        .next { s with regs := { s.regs with ops := { s.regs.ops with keyLo := v } } } ∧
      hostWrite 0x114 4 v s =
        .next { s with regs := { s.regs with ops := { s.regs.ops with keyHi := v.setWidth 16 } } })

/-- R51, R67: a DBUF word holds its four bytes in index order and reads back whole, and the other
bytes of the buffer are unchanged. -/
def Obligations.DbufWordsAreLittleEndian : Prop :=
  ∀ (s : State) (w : Fin 8) (v : Word), s.phase = .idle →
    ∃ t, hostWrite (0x120 + 4 * w.val) 4 v s = .next t ∧
      t.window (0x120 + 4 * w.val) = v ∧
      (∀ j, j < 4 → dbufAt t.regs.ops.dbuf (4 * w.val + j) = v.extractLsb' (8 * j) 8) ∧
      (∀ n, n / 4 ≠ w.val → dbufAt t.regs.ops.dbuf n = dbufAt s.regs.ops.dbuf n)

/-- R25, R30, R221: the STATUS write clears the written sticky flags and nothing else, the IRQ write
sets EN and clears PEND by a 1, both are honoured in either phase, and the interrupt output is the
level `EN & PEND`; and what STATUS and IRQ read as, field by field, with the codes of RESULT (R26),
CLASS (R27) and CAUSE and its RESULT and CLASS columns (R214). -/
def Obligations.StatusAndIrqWrites : Prop :=
  (∀ (s : State) (v : Word),
    hostWrite 0x00C 4 v s = .next { s with
      overrun := s.overrun && !v.getLsbD 24, wbusy := s.wbusy && !v.getLsbD 25 } ∧
    hostWrite 0x010 4 v s = .next { s with
      irqEn := v.getLsbD 0, irqPend := s.irqPend && !v.getLsbD 1 } ∧
    s.irq = (s.irqEn && s.irqPend)) ∧
  (∀ s : State,
    let w := s.window 0x00C
    (w.getLsbD 0 = true ↔ s.phase = .exec) ∧ w.getLsbD 1 = s.done ∧
    (w.extractLsb' 2 2 = match s.result with
      | .ok => 0
      | .notag => 1
      | .error => 2) ∧
    (w.extractLsb' 4 3 = match s.errClass with
      | .none => 0
      | .transport => 1
      | .protocol => 2
      | .data => 3
      | .command => 4) ∧
    w.getLsbD 7 = false ∧ w.extractLsb' 8 8 = s.cause.code ∧
    w.extractLsb' 16 8 = s.cur.extractLsb' 0 8 ∧ w.getLsbD 24 = s.overrun ∧
    w.getLsbD 25 = s.wbusy ∧ w.extractLsb' 26 6 = 0 ∧
    (s.window 0x010).getLsbD 0 = s.irqEn ∧ (s.window 0x010).getLsbD 1 = s.irqPend ∧
    (s.window 0x010).extractLsb' 2 30 = 0) ∧
  (let table : List (Cause × Byte × Result × ErrClass) :=
    [(.none, 0x00, .ok, .none), (.cmdUnknownOpcode, 0x01, .error, .command),
     (.cmdReservedBits, 0x02, .error, .command), (.cmdBadField, 0x03, .error, .command),
     (.seqState, 0x04, .error, .command), (.seqCryptoHeld, 0x05, .error, .command),
     (.calNotLoaded, 0x10, .error, .data), (.calIncomplete, 0x11, .error, .data),
     (.tfineStale, 0x12, .error, .data), (.divZeroGuard, 0x13, .error, .data),
     (.resultRange, 0x14, .error, .data), (.badLength, 0x15, .error, .data),
     (.feBus, 0x20, .error, .transport), (.respLength, 0x21, .error, .transport),
     (.crcPollTimeout, 0x30, .error, .protocol), (.fePollTimeout, 0x31, .error, .protocol),
     (.feFault, 0x32, .error, .protocol), (.bitCount, 0x33, .error, .protocol),
     (.bccMismatch, 0x34, .error, .protocol), (.crcMismatch, 0x35, .error, .protocol),
     (.nak, 0x36, .error, .protocol), (.authFailed, 0x37, .error, .protocol),
     (.cascadeDepth, 0x38, .error, .protocol), (.noResponse, 0x40, .notag, .none)]
   ∀ c : Cause, (c, c.code, c.result, c.errClass) ∈ table)

/-! ### Reset -/

/-- R59, R235: after power-on every word of the window reads 0 but ID, the engine is idle, nothing
is in flight, and the interrupt output is deasserted. That the parameters, the value last read and
the coming moves outlive a power-on is the model's choice for fields of its own
(notes/assumptions/2.md to 4.md). -/
def Obligations.PowerOnResetValues : Prop :=
  (∀ off, State.reset.window off = if off = 0 then 0x50430700 else 0) ∧
  State.reset.phase = .idle ∧ State.reset.irq = false ∧ State.reset.work = none ∧
  State.reset.pollcnt = 0 ∧ State.reset.feWait = false ∧ State.reset.feDiscard = false ∧
  State.reset.pcSeq = .start ∧ State.reset.opsnap = State.reset.regs.ops ∧
  State.reset.regs.ops.keyLo = 0 ∧ State.reset.regs.ops.keyHi = 0 ∧
  State.reset.regs.bme.cal =
    { t1 := 0, t2 := 0, t3 := 0, p1 := 0, p2 := 0, p3 := 0, p4 := 0, p5 := 0, p6 := 0, p7 := 0
      p8 := 0, p9 := 0, h1 := 0, h2 := 0, h3 := 0, h4 := 0, h5 := 0, h6 := 0 } ∧
  State.reset.regs.ms.cal = { c0 := 0, c1 := 0, c2 := 0, c3 := 0, c4 := 0, c5 := 0, c6 := 0 } ∧
  (∀ (s : State) (rest : List Event), s.env = .powerOn :: rest →
    step s = .next { State.reset with params := s.params, hostData := s.hostData, env := rest })

/-- R60, R236: a CTRL write with bit 0 = 1 resets everything but CRYPTO_HELD in one step, whether or
not a command runs, marks an answer still due to be discarded, and sets no interrupt; with bit 0 = 0
it does nothing. That the parameters, the value last read and the coming moves stay is the model's
choice for fields of its own (notes/assumptions/2.md to 4.md). -/
def Obligations.SoftResetKeepsCryptoHeld : Prop :=
  ∀ (s : State) (v : Word),
    (v.getLsbD 0 = true →
      hostWrite 0x004 4 v s = .next { State.reset with
        regs := { Regs.reset with
          seq := { SeqUnit.reset with cryptoHeld := s.regs.seq.cryptoHeld } }
        feDiscard := s.feWait || s.feDiscard
        params := s.params, hostData := s.hostData, env := s.env }) ∧
    (v.getLsbD 0 = false → hostWrite 0x004 4 v s = .next s)

/-- R54, R236: the late answer of an aborted command is absorbed without effect, and no request is
made before that. That any answer is absorbed, even one outside the aborted request's alphabet, is
the model's choice, since it does not keep that request (notes/assumptions/13.md). -/
def Obligations.LateAnswerIsAbsorbed : Prop :=
  ∀ s : State, s.feDiscard = true →
    (∀ a, frontEnd a s = .next { s with feDiscard := false }) ∧
    (∀ t, engineStep s = .next t → t.feDiscard = true ∧ (s.feWait = false → t.feWait = false))

/-! ### NOP and the BME280 commands -/

/-- R130: NOP finishes OK and changes no register. -/
def Obligations.NopFinishesOk : Prop :=
  ∀ s : State, exec .nop s = .next (s.finish s.regs .ok .none .none)

/-- R132, R133, R105: commit copies all 19 shadows as sampled, unpacks H4 and H5, and only with a
full mask; clear drops the flags and keeps the coefficients and results. -/
def Obligations.BmeCalibrationCommands : Prop :=
  ∀ s : State,
    (s.regs.bme.wmask = 0x7FFFF →
      exec .bmeCalCommit s = .next (s.finish { s.regs with bme := { s.regs.bme with
        cal := { t1 := s.opsnap.bmeShadow.t1, t2 := s.opsnap.bmeShadow.t2
                 t3 := s.opsnap.bmeShadow.t3, p1 := s.opsnap.bmeShadow.p1
                 p2 := s.opsnap.bmeShadow.p2, p3 := s.opsnap.bmeShadow.p3
                 p4 := s.opsnap.bmeShadow.p4, p5 := s.opsnap.bmeShadow.p5
                 p6 := s.opsnap.bmeShadow.p6, p7 := s.opsnap.bmeShadow.p7
                 p8 := s.opsnap.bmeShadow.p8, p9 := s.opsnap.bmeShadow.p9
                 h1 := s.opsnap.bmeShadow.h1, h2 := s.opsnap.bmeShadow.h2
                 h3 := s.opsnap.bmeShadow.h3, h6 := s.opsnap.bmeShadow.h6
                 h4 := s.opsnap.bmeShadow.hpk0 ++ s.opsnap.bmeShadow.hpk1.extractLsb' 0 4
                 h5 := s.opsnap.bmeShadow.hpk2 ++ s.opsnap.bmeShadow.hpk1.extractLsb' 4 4 }
        wmask := 0, valid := true, tfineValid := false } } .ok .none .none)) ∧
    (s.regs.bme.wmask ≠ 0x7FFFF →
      exec .bmeCalCommit s = .next (s.finish s.regs .error .data .calIncomplete)) ∧
    exec .bmeCalClear s = .next (s.finish { s.regs with bme := { s.regs.bme with
      valid := false, tfineValid := false, wmask := 0 } } .ok .none .none)

/-- R134, R136, R139 (with R144): the three chains are the formulas of the rules, every shift and
division a floor division. -/
def Obligations.BmeChainsAreTheFormulas : Prop :=
  (∀ adcT t1 t2 t3 : Int,
    bmeTemp adcT t1 t2 t3 =
      (let var1 := Int.fdiv ((Int.fdiv adcT 8 - t1 * 2) * t2) 2048
       let var2 := Int.fdiv
         (Int.fdiv ((Int.fdiv adcT 16 - t1) * (Int.fdiv adcT 16 - t1)) 4096 * t3) 16384
       (Int.fdiv ((var1 + var2) * 5 + 128) 256, var1 + var2))) ∧
  (∀ (adcP tFine : Int) (c : PressCoef),
    bmePress adcP tFine c =
      (let v := Int.fdiv tFine 2 - 64000
       let q := Int.fdiv v 4 * Int.fdiv v 4
       let v2 := Int.fdiv (Int.fdiv q 2048 * c.p6 + v * c.p5 * 2) 4 + c.p4 * 65536
       let v3 := Int.fdiv (c.p3 * Int.fdiv q 8192) 8
       let v4 := Int.fdiv (c.p2 * v) 2
       let u := Int.fdiv ((32768 + Int.fdiv (v3 + v4) 262144) * c.p1) 32768
       if u = 0 then none
       else
         let p := (1048576 - adcP - Int.fdiv v2 4096) * 3125
         let p := if 0 ≤ p ∧ p < 2147483648 then Int.fdiv (p * 2) u else Int.fdiv p u * 2
         let w1 := Int.fdiv (c.p9 * Int.fdiv (Int.fdiv p 8 * Int.fdiv p 8) 8192) 4096
         let w2 := Int.fdiv (Int.fdiv p 4 * c.p8) 8192
         some (p + Int.fdiv (w1 + w2 + c.p7) 16))) ∧
  (∀ (adcH tFine : Int) (c : HumCoef),
    bmeHum adcH tFine c =
      (let x := tFine - 76800
       let a := Int.fdiv (adcH * 16384 - c.h4 * 1048576 - c.h5 * x + 16384) 32768
       let m := Int.fdiv (Int.fdiv (x * c.h6) 1024 * (Int.fdiv (x * c.h3) 2048 + 32768)) 1024
       let b := Int.fdiv ((m + 2097152) * c.h2 + 8192) 16384
       let y := a * b
       let z := y - Int.fdiv (Int.fdiv (Int.fdiv y 32768 * Int.fdiv y 32768) 128 * c.h1) 16
       Int.fdiv (min (max z 0) 419430400) 4096))

/-- R135: BME_T. -/
def Obligations.BmeTComputesTemperature : Prop :=
  ∀ s : State,
    (s.regs.bme.valid = false →
      exec .bmeT s = .next (s.finish s.regs .error .data .calNotLoaded)) ∧
    (s.regs.bme.valid = true →
      exec .bmeT s = .next (s.finish { s.regs with bme := { s.regs.bme with
        tfine := BitVec.ofInt 32 (bmeTemp s.opsnap.rawT.toNat s.regs.bme.cal.t1.toNat
          s.regs.bme.cal.t2.toInt s.regs.bme.cal.t3.toInt).2
        tOut := BitVec.ofInt 32 (bmeTemp s.opsnap.rawT.toNat s.regs.bme.cal.t1.toNat
          s.regs.bme.cal.t2.toInt s.regs.bme.cal.t3.toInt).1
        tfineValid := true } } .ok .none .none))

/-- R137, R138, R146: BME_P on the loaded coefficients, P1 unsigned and the others signed (R35), its
two refusals, the guard's and the range failure's zero, and the published result. -/
def Obligations.BmePComputesPressure : Prop :=
  ∀ s : State,
    let c := s.regs.bme.cal
    let coef : PressCoef := { p1 := c.p1.toNat, p2 := c.p2.toInt, p3 := c.p3.toInt, p4 := c.p4.toInt
                              p5 := c.p5.toInt, p6 := c.p6.toInt, p7 := c.p7.toInt, p8 := c.p8.toInt
                              p9 := c.p9.toInt }
    let r := bmePress s.opsnap.rawP.toNat s.regs.bme.tfine.toInt coef
    let put := fun (v : Word) => { s.regs with bme := { s.regs.bme with pOut := v } }
    (s.regs.bme.valid = false →
      exec .bmeP s = .next (s.finish s.regs .error .data .calNotLoaded)) ∧
    (s.regs.bme.valid = true → s.regs.bme.tfineValid = false →
      exec .bmeP s = .next (s.finish s.regs .error .data .tfineStale)) ∧
    (s.regs.bme.valid = true → s.regs.bme.tfineValid = true →
      (r = none → exec .bmeP s = .next (s.finish (put 0) .error .data .divZeroGuard)) ∧
      (∀ p, r = some p → (-2147483648 ≤ p ∧ p < 2147483648) →
        exec .bmeP s = .next (s.finish (put (BitVec.ofInt 32 p)) .ok .none .none)) ∧
      (∀ p, r = some p → ¬(-2147483648 ≤ p ∧ p < 2147483648) →
        exec .bmeP s = .next (s.finish (put 0) .error .data .resultRange)))

/-- R140: BME_H on the loaded coefficients, H1 and H3 unsigned and the others signed (R35, R105),
and its two refusals. -/
def Obligations.BmeHComputesHumidity : Prop :=
  ∀ s : State,
    let c := s.regs.bme.cal
    let coef : HumCoef := { h1 := c.h1.toNat, h2 := c.h2.toInt, h3 := c.h3.toNat, h4 := c.h4.toInt
                            h5 := c.h5.toInt, h6 := c.h6.toInt }
    (s.regs.bme.valid = false →
      exec .bmeH s = .next (s.finish s.regs .error .data .calNotLoaded)) ∧
    (s.regs.bme.valid = true → s.regs.bme.tfineValid = false →
      exec .bmeH s = .next (s.finish s.regs .error .data .tfineStale)) ∧
    (s.regs.bme.valid = true → s.regs.bme.tfineValid = true →
      exec .bmeH s = .next (s.finish { s.regs with bme := { s.regs.bme with
        hOut := BitVec.ofInt 32 (bmeHum s.opsnap.rawH.toNat s.regs.bme.tfine.toInt coef) } }
        .ok .none .none))

/-- R142: BME_ALL computes all three on the loaded coefficients, each with its sign (R35, R105),
pressure and humidity on the `tFine` just computed; a pressure failure still publishes temperature
and humidity. -/
def Obligations.BmeAllComputesTheReading : Prop :=
  ∀ s : State,
    let c := s.regs.bme.cal
    let pc : PressCoef := { p1 := c.p1.toNat, p2 := c.p2.toInt, p3 := c.p3.toInt, p4 := c.p4.toInt
                            p5 := c.p5.toInt, p6 := c.p6.toInt, p7 := c.p7.toInt, p8 := c.p8.toInt
                            p9 := c.p9.toInt }
    let hc : HumCoef := { h1 := c.h1.toNat, h2 := c.h2.toInt, h3 := c.h3.toNat, h4 := c.h4.toInt
                          h5 := c.h5.toInt, h6 := c.h6.toInt }
    let t := bmeTemp s.opsnap.rawT.toNat c.t1.toNat c.t2.toInt c.t3.toInt
    let r := bmePress s.opsnap.rawP.toNat t.2 pc
    let put := fun (v : Word) => { s.regs with bme := { s.regs.bme with
      tfine := BitVec.ofInt 32 t.2, tOut := BitVec.ofInt 32 t.1, tfineValid := true
      hOut := BitVec.ofInt 32 (bmeHum s.opsnap.rawH.toNat t.2 hc), pOut := v } }
    (s.regs.bme.valid = false →
      exec .bmeAll s = .next (s.finish s.regs .error .data .calNotLoaded)) ∧
    (s.regs.bme.valid = true →
      (r = none → exec .bmeAll s = .next (s.finish (put 0) .error .data .divZeroGuard)) ∧
      (∀ p, r = some p → (-2147483648 ≤ p ∧ p < 2147483648) →
        exec .bmeAll s = .next (s.finish (put (BitVec.ofInt 32 p)) .ok .none .none)) ∧
      (∀ p, r = some p → ¬(-2147483648 ≤ p ∧ p < 2147483648) →
        exec .bmeAll s = .next (s.finish (put 0) .error .data .resultRange)))

/-- R142's corner case: BME_ALL leaves the registers and the report that BME_T, BME_H and BME_P in a
row leave on the same samples. It rests on TFINE holding `tFine` exactly (R147). -/
def Obligations.BmeAllEqualsTheSeparateCommands : Prop :=
  ∀ s : State, s.regs.bme.valid = true →
    ∃ a b c t, exec .bmeT s = .next a ∧ exec .bmeH a = .next b ∧ exec .bmeP b = .next c ∧
      exec .bmeAll s = .next t ∧ t = c

/-- R135, R147: the range of `tFine` and T over every register-representable input. -/
def Obligations.TemperatureStaysInRange : Prop :=
  ∀ (c : BmeCal) (rawT : BitVec 20),
    let r := bmeTemp rawT.toNat c.t1.toNat c.t2.toInt c.t3.toInt
    r.2 ≤ 4194144 ∧ -4194224 ≤ r.2 ∧ r.1 ≤ 81917 ∧ -81918 ≤ r.1

/-- R141: the humidity result lies in `[0, 102400]`, whatever the inputs. -/
def Obligations.HumidityStaysInRange : Prop :=
  ∀ (adcH tFine : Int) (c : HumCoef), 0 ≤ bmeHum adcH tFine c ∧ bmeHum adcH tFine c ≤ 102400

/-! ### The MS5637 commands -/

/-- R151, R152: commit copies all seven shadows as sampled, only with a full mask; clear drops the
flag and the mask. -/
def Obligations.MsCalibrationCommands : Prop :=
  ∀ s : State,
    (s.regs.ms.wmask = 0x7F →
      exec .msCalCommit s = .next (s.finish { s.regs with ms := { s.regs.ms with
        cal := s.opsnap.msShadow, wmask := 0, valid := true } } .ok .none .none)) ∧
    (s.regs.ms.wmask ≠ 0x7F →
      exec .msCalCommit s = .next (s.finish s.regs .error .data .calIncomplete)) ∧
    exec .msCalClear s = .next (s.finish { s.regs with ms := { s.regs.ms with
      valid := false, wmask := 0 } } .ok .none .none)

/-- R154, R155, R156: `ms_comp` is the formula of the rules under either reading of the high-range
T2. -/
def Obligations.MsChainIsTheFormula : Prop :=
  ∀ (h : Config.HighT2) (d1 d2 : Int) (c : MsCoef),
    msComp h d1 d2 c =
      (let dT := d2 - c.c5 * 256
       let temp := 2000 + Int.fdiv (dT * c.c6) 8388608
       let off := c.c2 * 131072 + Int.fdiv (c.c4 * dT) 64
       let sens := c.c1 * 65536 + Int.fdiv (c.c3 * dT) 128
       let sq := (temp - 2000) * (temp - 2000)
       let sq2 := (temp + 1500) * (temp + 1500)
       let t2 := if temp < 2000 then Int.fdiv (3 * dT * dT) 8589934592
         else if h = .datasheet then Int.fdiv (5 * dT * dT) 274877906944 else 0
       let off2 := if temp < 2000 then
           Int.fdiv (61 * sq) 16 + (if temp < -1500 then 17 * sq2 else 0) else 0
       let sens2 := if temp < 2000 then
           Int.fdiv (29 * sq) 16 + (if temp < -1500 then 9 * sq2 else 0) else 0
       (temp - t2, Int.fdiv (Int.fdiv (d1 * (sens - sens2)) 2097152 - (off - off2)) 32768))

/-- R153 (with R157): MS_COMP refuses without a loaded set, and otherwise publishes both results of
`ms_comp` on the sampled D1 and D2 and the loaded C1 to C6, all unsigned (R43, R44), and finishes OK
on every sample. -/
def Obligations.MsCompComputesBoth : Prop :=
  ∀ s : State,
    let c := s.regs.ms.cal
    let coef : MsCoef := { c1 := c.c1.toNat, c2 := c.c2.toNat, c3 := c.c3.toNat, c4 := c.c4.toNat
                           c5 := c.c5.toNat, c6 := c.c6.toNat }
    let r := msComp s.params.msHighT2 s.opsnap.d1.toNat s.opsnap.d2.toNat coef
    (s.regs.ms.valid = false →
      exec .msComp s = .next (s.finish s.regs .error .data .calNotLoaded)) ∧
    (s.regs.ms.valid = true →
      exec .msComp s = .next (s.finish { s.regs with ms := { s.regs.ms with
        temp := BitVec.ofInt 32 r.1, press := BitVec.ofInt 32 r.2 } } .ok .none .none))

/-- R157: both MS5637 results fit 32 bits for every register-representable input. -/
def Obligations.MsResultsAlwaysFit : Prop :=
  ∀ (c : MsCal) (h : Config.HighT2) (d1 d2 : BitVec 24),
    let coef : MsCoef := { c1 := c.c1.toNat, c2 := c.c2.toNat, c3 := c.c3.toNat, c4 := c.c4.toNat
                           c5 := c.c5.toNat, c6 := c.c6.toNat }
    let r := msComp h d1.toNat d2.toNat coef
    r.1 < 2147483648 ∧ -2147483648 ≤ r.1 ∧ r.2 < 2147483648 ∧ -2147483648 ≤ r.2

/-- R158: for a fixed calibration and D2, MS_P is non-decreasing in D1 while the corrected SENS is
at least 0. The second half is the model's reading: where R158 says that MS_P decreases, for SENS <
0, it is non-increasing, since floor shifts can keep it equal (notes/assumptions/24.md). -/
def Obligations.MsPressureIsMonotoneInD1 : Prop :=
  ∀ (h : Config.HighT2) (c : MsCoef) (d2 a b : Int), a ≤ b →
    (0 ≤ (msSecond h (msFirst d2 c)).sens → (msComp h a d2 c).2 ≤ (msComp h b d2 c).2) ∧
    ((msSecond h (msFirst d2 c)).sens < 0 → (msComp h b d2 c).2 ≤ (msComp h a d2 c).2)

/-! ### The CRC commands -/

/-- R164: CRC_CALC refuses a length over 32, hands the first LEN buffer bytes to the coprocessor,
and publishes the CRC it reads, low byte first. -/
def Obligations.CrcCalcPublishesTheCrc : Prop :=
  ∀ s : State,
    (s.pcSeq = .start → 32 < s.opsnap.len.toNat →
      exec .crcCalc s = .next (s.finish s.regs .error .data .badLength)) ∧
    (s.pcSeq = .start → s.opsnap.len.toNat ≤ 32 →
      exec .crcCalc s = .next (s.ask s.regs .crc .start
        (.crcStart (s.opsnap.dbuf.toList.take s.opsnap.len.toNat)))) ∧
    (∀ lo hi, s.pcSeq = .at .crc .read → s.feAns = some (.res lo hi) →
      exec .crcCalc s =
        .next (s.finish { s.working with crcRes := hi ++ lo } .ok .none .none))

/-- R166: CRC_CHECK refuses a length outside 3..32, hands over all but the last two bytes, publishes
the CRC, and reports a mismatch with the two bytes that follow. -/
def Obligations.CrcCheckComparesTheCrc : Prop :=
  ∀ s : State,
    (s.pcSeq = .start → (s.opsnap.len.toNat < 3 ∨ 32 < s.opsnap.len.toNat) →
      exec .crcCheck s = .next (s.finish s.regs .error .data .badLength)) ∧
    (s.pcSeq = .start → 3 ≤ s.opsnap.len.toNat → s.opsnap.len.toNat ≤ 32 →
      exec .crcCheck s = .next (s.ask s.regs .crc .start
        (.crcStart (s.opsnap.dbuf.toList.take (s.opsnap.len.toNat - 2))))) ∧
    (∀ lo hi, s.pcSeq = .at .crc .read → s.feAns = some (.res lo hi) →
      let n := s.opsnap.len.toNat
      let want := dbufAt s.opsnap.dbuf (n - 1) ++ dbufAt s.opsnap.dbuf (n - 2)
      (hi ++ lo = want → exec .crcCheck s =
        .next (s.finish { s.working with crcRes := hi ++ lo } .ok .none .none)) ∧
      (hi ++ lo ≠ want → exec .crcCheck s =
        .next (s.finish { s.working with crcRes := hi ++ lo } .error .protocol .crcMismatch)))

/-- R87, R90, R164, R169: a whole CRC_CALC with `k` polls not done before the one that is, for every
`k` under the bound: `k + 3` requests, then the CRC published and nothing else of the registers. -/
def Obligations.CrcCalcConversation : Prop :=
  ∀ (s : State) (k : Nat) (lo hi : Byte), Fresh .crcCalc s → s.opsnap.len.toNat ≤ 32 → k < 255 →
    ∃ t, converse ([.ack] ++ List.replicate k .notdone ++ [.done, .res lo hi]) s = .next t ∧
      t.phase = .idle ∧ t.result = .ok ∧ t.cause = .none ∧
      t.regs = { s.regs with crcRes := hi ++ lo }

/-- R165: after 255 polls not done, both CRC commands fail with CRC_POLL_TIMEOUT and leave every
register as it was. -/
def Obligations.CrcPollTimesOutAfter255 : Prop :=
  ∀ (s : State) (i : Instr),
    (i = .crcCalc ∧ s.opsnap.len.toNat ≤ 32 ∨
      i = .crcCheck ∧ 3 ≤ s.opsnap.len.toNat ∧ s.opsnap.len.toNat ≤ 32) → Fresh i s →
    ∃ t, converse ([.ack] ++ List.replicate 255 .notdone) s = .next t ∧
      t.phase = .idle ∧ t.result = .error ∧ t.errClass = .protocol ∧ t.cause = .crcPollTimeout ∧
      t.regs = s.regs

/-- R167: no block step of a CRC command changes the session, the UID, the cascade buffers, ATQA_SAK
or DBUF, in the registers or in the working copies. -/
def Obligations.CrcCommandsLeaveTheSession : Prop :=
  ∀ (s t : State) (i : Instr), (i = .crcCalc ∨ i = .crcCheck) →
    s.working.seq = s.regs.seq → s.working.ops = s.regs.ops → exec i s = .next t →
    t.regs.seq = s.regs.seq ∧ t.regs.ops = s.regs.ops ∧ t.working.seq = s.regs.seq ∧
    t.working.ops = s.regs.ops

/-- R168: against a front-end that answers `fe.crc_read` with `fn` of the bytes of the
`fe.crc_start` before it, whatever `fn` is and whatever it held earlier, CRC_CHECK of a frame and
two CRC bytes publishes `fn` of the frame, passes if the two bytes are that CRC, low byte first, and
reports CRC_MISMATCH if not. -/
def Obligations.ConformingFrontEndPassesCrcCheck : Prop :=
  ∀ (fn : List Byte → BitVec 16) (s : State) (held d : List Byte) (lo hi : Byte),
    Fresh .crcCheck s → 1 ≤ d.length → d.length ≤ 30 → s.opsnap.len.toNat = d.length + 2 →
    s.opsnap.dbuf.toList.take (d.length + 2) = d ++ [lo, hi] →
    ∃ t, serveConforming fn 10 held s = .next t ∧ t.phase = .idle ∧
      t.regs = { s.regs with crcRes := fn d } ∧
      (hi ++ lo = fn d → t.result = .ok ∧ t.errClass = .none ∧ t.cause = .none) ∧
      (hi ++ lo ≠ fn d → t.result = .error ∧ t.errClass = .protocol ∧ t.cause = .crcMismatch)

/-! ### The sequencer's commands -/

/-- R171, R172: REQUEST. -/
def Obligations.RequestMeaning : Prop :=
  ∀ (m : ReqMode) (s : State),
    (s.pcSeq = .start → s.regs.seq.cryptoHeld = true →
      exec (.request m) s = .next (s.finish s.regs .error .command .seqCryptoHeld)) ∧
    (s.pcSeq = .start → s.regs.seq.cryptoHeld = false →
      exec (.request m) s = .next (s.ask
        { s.regs with seq := { s.regs.seq with
          uid := [], uidValid := false, level := 0, ct := false, sak := 0
          cl1 := Vector.replicate 5 0, cl2 := Vector.replicate 5 0
          cl3 := Vector.replicate 5 0 } }
        .request .start (.trxStart [if m = .reqA then 0x26 else 0x52] 7))) ∧
    (∀ rx bits, s.pcSeq = .at .request .read → s.feAns = some (.rx rx bits) →
      (bits = 16 → exec (.request m) s = .next (s.finish
        { s.working with seq := { s.working.seq with
          atqa := byteAt rx 1 ++ byteAt rx 0, state := .requested } } .ok .none .none)) ∧
      (bits ≠ 16 → exec (.request m) s =
        .next (s.finish s.working.sessionAbort .error .protocol .bitCount)))

/-- R174, R175: ANTICOLL, with its checks in order and the bytes each kind of reply contributes. -/
def Obligations.AnticollMeaning : Prop :=
  ∀ (l : BitVec 2) (s : State), l ≠ 0 →
    let sel : Byte := if l = 1 then 0x93 else if l = 2 then 0x95 else 0x97
    let put := fun (c : Vector Byte 5) =>
      if l = 1 then { s.working.seq with cl1 := c }
      else if l = 2 then { s.working.seq with cl2 := c } else { s.working.seq with cl3 := c }
    (s.pcSeq = .start → s.regs.seq.cryptoHeld = true →
      exec (.anticoll l) s = .next (s.finish s.regs .error .command .seqCryptoHeld)) ∧
    (s.pcSeq = .start → s.regs.seq.cryptoHeld = false → anticollReady s.regs.seq l = false →
      exec (.anticoll l) s = .next (s.finish s.regs .error .command .seqState)) ∧
    (s.pcSeq = .start → s.regs.seq.cryptoHeld = false → anticollReady s.regs.seq l = true →
      exec (.anticoll l) s = .next (s.ask
        { s.regs with seq :=
          if l = 1 then { s.regs.seq with uid := [], uidValid := false } else s.regs.seq }
        (.anticoll l) .start (.trxStart [sel, 0x20] 0))) ∧
    (∀ rx bits, s.pcSeq = .at (.anticoll l) .read → s.feAns = some (.rx rx bits) →
      let b := byteAt rx
      let good := bits = 40 ∧ b 4 = b 0 ^^^ b 1 ^^^ b 2 ^^^ b 3
      (bits ≠ 40 → exec (.anticoll l) s =
        .next (s.finish s.working.sessionAbort .error .transport .respLength)) ∧
      (bits = 40 → b 4 ≠ b 0 ^^^ b 1 ^^^ b 2 ^^^ b 3 → exec (.anticoll l) s =
        .next (s.finish s.working.sessionAbort .error .protocol .bccMismatch)) ∧
      (good → b 0 = 0x88 → l = 3 → exec (.anticoll l) s =
        .next (s.finish s.working.sessionAbort .error .protocol .cascadeDepth)) ∧
      (good → b 0 = 0x88 → l ≠ 3 → exec (.anticoll l) s = .next (s.finish
        { s.working with seq := { put #v[b 0, b 1, b 2, b 3, b 4] with
          level := l, state := .anticoll, ct := true
          uid := s.working.seq.uid ++ [b 1, b 2, b 3] } } .ok .none .none)) ∧
      (good → b 0 ≠ 0x88 → exec (.anticoll l) s = .next (s.finish
        { s.working with seq := { put #v[b 0, b 1, b 2, b 3, b 4] with
          level := l, state := .anticoll, ct := false, uidValid := true
          uid := s.working.seq.uid ++ [b 0, b 1, b 2, b 3] } } .ok .none .none)))

/-- R174: the session precondition of ANTICOLL, and R177: that of SELECT. -/
def Obligations.CascadePreconditions : Prop :=
  ∀ q : SeqUnit,
    (anticollReady q 1 = true ↔ q.state = .requested) ∧
    (anticollReady q 2 = true ↔ q.state = .selected ∧ q.level = 1 ∧ q.ct = true) ∧
    (anticollReady q 3 = true ↔ q.state = .selected ∧ q.level = 2 ∧ q.ct = true) ∧
    (∀ l, selectReady q l = true ↔ q.state = .anticoll ∧ q.level = l) ∧
    (authReady q = true ↔ q.state = .selected ∧ q.uidValid = true) ∧
    (readReady .classic q = true ↔ q.state = .authenticated) ∧
    (readReady .ntag q = true ↔
      (q.state = .selected ∨ q.state = .authenticated) ∧ q.uidValid = true)

/-- R177, R178: SELECT sends the level's stored reply with its CRC, accepts exactly 24 bits, and
checks the reply's CRC only where the parameter asks. -/
def Obligations.SelectMeaning : Prop :=
  ∀ (l : BitVec 2) (s : State), l ≠ 0 →
    let sel : Byte := if l = 1 then 0x93 else if l = 2 then 0x95 else 0x97
    let cl := fun (q : SeqUnit) => if l = 1 then q.cl1 else if l = 2 then q.cl2 else q.cl3
    let frame := [sel, 0x70] ++ (cl s.working.seq).toList
    (s.pcSeq = .start → s.regs.seq.cryptoHeld = true →
      exec (.select l) s = .next (s.finish s.regs .error .command .seqCryptoHeld)) ∧
    (s.pcSeq = .start → s.regs.seq.cryptoHeld = false → selectReady s.regs.seq l = false →
      exec (.select l) s = .next (s.finish s.regs .error .command .seqState)) ∧
    (s.pcSeq = .start → s.regs.seq.cryptoHeld = false → selectReady s.regs.seq l = true →
      exec (.select l) s = .next (s.ask s.regs (.selectCrc l) .start
        (.crcStart ([sel, 0x70] ++ (cl s.regs.seq).toList)))) ∧
    (∀ lo hi, s.pcSeq = .at (.selectCrc l) .read → s.feAns = some (.res lo hi) →
      exec (.select l) s = .next (s.ask s.working (.selectTrx l) .start
        (.trxStart (frame ++ [lo, hi]) 0))) ∧
    (∀ rx bits, s.pcSeq = .at (.selectTrx l) .read → s.feAns = some (.rx rx bits) →
      (bits ≠ 24 → exec (.select l) s =
        .next (s.finish s.working.sessionAbort .error .protocol .bitCount)) ∧
      (bits = 24 → s.params.checkRxCrc = false → exec (.select l) s = .next (s.finish
        { s.working with seq := { s.working.seq with sak := byteAt rx 0, state := .selected } }
        .ok .none .none)) ∧
      (bits = 24 → s.params.checkRxCrc = true → exec (.select l) s =
        .next ({ s with rxHeld := rx }.ask s.working (.selectChk l) .start
          (.crcStart [byteAt rx 0])))) ∧
    (∀ lo hi, s.pcSeq = .at (.selectChk l) .read → s.feAns = some (.res lo hi) →
      (hi ++ lo = byteAt s.rxHeld 2 ++ byteAt s.rxHeld 1 → exec (.select l) s = .next (s.finish
        { s.working with seq := { s.working.seq with
          sak := byteAt s.rxHeld 0, state := .selected } } .ok .none .none)) ∧
      (hi ++ lo ≠ byteAt s.rxHeld 2 ++ byteAt s.rxHeld 1 → exec (.select l) s =
        .next (s.finish s.working.sessionAbort .error .protocol .crcMismatch)))

/-- R180: SCAN starts as REQUEST does, goes from its reply to the level-1 anticollision, finishes OK
at the first level whose reply carries no cascade marker, and goes on through that level's SELECT
where there is one; a reply that REQUEST, ANTICOLL or SELECT fails on fails SCAN the same way. -/
def Obligations.ScanMeaning : Prop :=
  ∀ (m : ReqMode) (s : State),
    let sel := fun (l : BitVec 2) => (if l = 1 then 0x93 else if l = 2 then 0x95 else 0x97 : Byte)
    let put := fun (l : BitVec 2) (c : Vector Byte 5) =>
      if l = 1 then { s.working.seq with cl1 := c }
      else if l = 2 then { s.working.seq with cl2 := c } else { s.working.seq with cl3 := c }
    let next := fun (q : SeqUnit) (l : BitVec 2) => s.ask { s.working with seq := q }
      (.anticoll l) .start (.trxStart [sel l, 0x20] 0)
    (s.pcSeq = .start → exec (.scan m) s = exec (.request m) s) ∧
    (∀ rx bits, s.pcSeq = .at .request .read → s.feAns = some (.rx rx bits) →
      (bits = 16 → exec (.scan m) s = .next (next { s.working.seq with
        atqa := byteAt rx 1 ++ byteAt rx 0, state := .requested, uid := [], uidValid := false } 1)) ∧
      (bits ≠ 16 → exec (.scan m) s = exec (.request m) s)) ∧
    (∀ l rx bits, l ≠ 0 → s.pcSeq = .at (.anticoll l) .read → s.feAns = some (.rx rx bits) →
      let b := byteAt rx
      let good := bits = 40 ∧ b 4 = b 0 ^^^ b 1 ^^^ b 2 ^^^ b 3
      (good → b 0 ≠ 0x88 → exec (.scan m) s = exec (.anticoll l) s ∧ ∃ t,
        exec (.scan m) s = .next t ∧ t.phase = .idle ∧ t.result = .ok ∧
        t.regs.seq.state = .anticoll ∧ t.regs.seq.level = l ∧ t.regs.seq.uidValid = true ∧
        t.regs.seq.uid = s.working.seq.uid ++ [b 0, b 1, b 2, b 3]) ∧
      (good → b 0 = 0x88 → l ≠ 3 → ∃ w,
        exec (.scan m) s = .next (s.ask w (.selectCrc l) .start
          (.crcStart ([sel l, 0x70] ++ [b 0, b 1, b 2, b 3, b 4]))) ∧
        w = { s.working with seq := { put l #v[b 0, b 1, b 2, b 3, b 4] with
          level := l, state := .anticoll, ct := true
          uid := s.working.seq.uid ++ [b 1, b 2, b 3] } }) ∧
      (¬good ∨ (b 0 = 0x88 ∧ l = 3) → exec (.scan m) s = exec (.anticoll l) s)) ∧
    (∀ l p, s.pcSeq = .at (.selectCrc l) p → exec (.scan m) s = exec (.select l) s) ∧
    (∀ l rx bits, l ≠ 0 → l ≠ 3 → s.pcSeq = .at (.selectTrx l) .read →
      s.feAns = some (.rx rx bits) →
      (bits = 24 → s.params.checkRxCrc = false → exec (.scan m) s = .next (next
        { s.working.seq with sak := byteAt rx 0, state := .selected } (l + 1))) ∧
      (bits ≠ 24 ∨ s.params.checkRxCrc = true → exec (.scan m) s = exec (.select l) s)) ∧
    (∀ l lo hi, l ≠ 0 → l ≠ 3 → s.pcSeq = .at (.selectChk l) .read →
      s.feAns = some (.res lo hi) →
      (hi ++ lo = byteAt s.rxHeld 2 ++ byteAt s.rxHeld 1 → exec (.scan m) s = .next (next
        { s.working.seq with sak := byteAt s.rxHeld 0, state := .selected } (l + 1))) ∧
      (hi ++ lo ≠ byteAt s.rxHeld 2 ++ byteAt s.rxHeld 1 →
        exec (.scan m) s = exec (.select l) s))

/-- R188 to R191: AUTH. Making its first request is the direct write of CRYPTO_HELD, in the
registers and in the working copies (R191). That SEQ_CRYPTO_HELD comes first whatever STATE is, as
R188 and R216 order it against the remark of R201, is the model's reading (notes/assumptions/9.md).
-/
def Obligations.AuthMeaning : Prop :=
  ∀ (k : KeyType) (a : Byte) (s : State),
    let payload := [if k = .keyA then 0x60 else 0x61, a] ++
      [wordByte s.opsnap.keyLo 0, wordByte s.opsnap.keyLo 1, wordByte s.opsnap.keyLo 2,
       wordByte s.opsnap.keyLo 3, s.opsnap.keyHi.extractLsb' 0 8, s.opsnap.keyHi.extractLsb' 8 8] ++
      [wordByte s.opsnap.authUid 0, wordByte s.opsnap.authUid 1, wordByte s.opsnap.authUid 2,
       wordByte s.opsnap.authUid 3]
    (s.pcSeq = .start → s.regs.seq.cryptoHeld = true →
      exec (.auth k a) s = .next (s.finish s.regs .error .command .seqCryptoHeld)) ∧
    (s.pcSeq = .start → s.regs.seq.cryptoHeld = false → authReady s.regs.seq = false →
      exec (.auth k a) s = .next (s.finish s.regs .error .command .seqState)) ∧
    (s.pcSeq = .start → s.regs.seq.cryptoHeld = false → authReady s.regs.seq = true →
      exec (.auth k a) s = .next (s.ask s.regs .auth .start (.authStart payload)) ∧
      (s.phase = .exec → s.feWait = false → s.feDiscard = false →
        let t := s.ask s.regs .auth .start (.authStart payload)
        let held := { s.regs with seq := { s.regs.seq with cryptoHeld := true } }
        engineStep t = .next { t with feWait := true, regs := held, work := some held })) ∧
    (s.pcSeq = .at .auth .read → s.feAns = some .on →
      exec (.auth k a) s = .next (s.finish
        { s.working with seq := { s.working.seq with state := .authenticated } }
        .ok .none .none)) ∧
    (s.pcSeq = .at .auth .read → s.feAns = some .off →
      exec (.auth k a) s =
        .next (s.finish s.working.sessionAbort .error .protocol .authFailed))

/-- R188, R191, R92: a whole successful AUTH: CRYPTO_HELD and AUTHENTICATED, and nothing else of the
registers, after `k` polls not done. -/
def Obligations.AuthConversation : Prop :=
  ∀ (s : State) (kt : KeyType) (a : Byte) (k : Nat), Fresh (.auth kt a) s →
    s.regs.seq.cryptoHeld = false → s.regs.seq.state = .selected → s.regs.seq.uidValid = true →
    k < s.params.fePollMax →
    ∃ t, converse ([.ack] ++ List.replicate k .notdone ++ [.done, .on]) s = .next t ∧
      t.phase = .idle ∧ t.result = .ok ∧ t.cause = .none ∧
      t.regs = { s.regs with seq := { s.regs.seq with
        cryptoHeld := true, state := .authenticated } }

/-- R193, R194: STOPCRYPTO is legal in every state, makes its one request, and leaves CRYPTO_HELD 0
and the session IDLE on either answer. That the register keeps CRYPTO_HELD until the finish, the
clearing being to a working copy as R55 has every write but AUTH's, is the model's reading
(notes/assumptions/8.md). -/
def Obligations.StopCryptoReleases : Prop :=
  ∀ s : State,
    (s.pcSeq = .start → exec .stopCrypto s = .next (s.ask
      { s.regs with seq := { s.regs.seq with
        cryptoHeld := false, state := .idle, level := 0, ct := false } }
      .cryptoOff .start .cryptoOff)) ∧
    (s.pcSeq = .at .cryptoOff .start → s.feAns = some .ack →
      exec .stopCrypto s = .next (s.finish s.working .ok .none .none)) ∧
    (s.pcSeq = .at .cryptoOff .start → s.feAns = some .busfail →
      exec .stopCrypto s = .next (s.finish s.working .error .transport .feBus)) ∧
    (Fresh .stopCrypto s → ∀ a, (a = .ack ∨ a = .busfail) →
      ∃ t, converse [a] s = .next t ∧ t.phase = .idle ∧
        t.regs = { s.regs with seq := { s.regs.seq with
          cryptoHeld := false, state := .idle, level := 0, ct := false } })

/-- R195, R196: READ. The data goes to `dbuf[0..15]` on success alone, `dbuf[16..31]` is never
written, and a successful READ changes no other register: SESSION, the calibration and every operand
register but DBUF stay. -/
def Obligations.ReadMeaning : Prop :=
  ∀ (c : CardKind) (a : Byte) (s : State),
    (s.pcSeq = .start → readReady c s.regs.seq = false →
      exec (.read c a) s = .next (s.finish s.regs .error .command .seqState)) ∧
    (s.pcSeq = .start → readReady c s.regs.seq = true →
      exec (.read c a) s = .next (s.ask s.regs .readCrc .start (.crcStart [0x30, a]))) ∧
    (∀ lo hi, s.pcSeq = .at .readCrc .read → s.feAns = some (.res lo hi) →
      exec (.read c a) s = .next (s.ask s.working .readTrx .start
        (.trxStart [0x30, a, lo, hi] 0))) ∧
    (∀ rx bits, s.pcSeq = .at .readTrx .read → s.feAns = some (.rx rx bits) →
      (bits = 4 → exec (.read c a) s =
        .next (s.finish s.working.sessionAbort .error .protocol .nak)) ∧
      (bits ≠ 4 → bits ≠ 144 → exec (.read c a) s =
        .next (s.finish s.working.sessionAbort .error .transport .respLength)) ∧
      (bits = 144 → s.params.checkRxCrc = true → exec (.read c a) s =
        .next ({ s with rxHeld := rx }.ask s.working .readChk .start (.crcStart (rx.take 16)))) ∧
      (bits = 144 → s.params.checkRxCrc = false → exec (.read c a) s =
        .next (s.finish (s.working.loadDbuf rx) .ok .none .none))) ∧
    (∀ lo hi, s.pcSeq = .at .readChk .read → s.feAns = some (.res lo hi) →
      (hi ++ lo = byteAt s.rxHeld 17 ++ byteAt s.rxHeld 16 → exec (.read c a) s =
        .next (s.finish (s.working.loadDbuf s.rxHeld) .ok .none .none)) ∧
      (hi ++ lo ≠ byteAt s.rxHeld 17 ++ byteAt s.rxHeld 16 → exec (.read c a) s =
        .next (s.finish s.working.sessionAbort .error .protocol .crcMismatch))) ∧
    (∀ rx, s.working.loadDbuf rx = { s.working with
        ops := { s.working.ops with dbuf := (s.working.loadDbuf rx).ops.dbuf } } ∧
      ∀ n, dbufAt (s.working.loadDbuf rx).ops.dbuf n =
        if n < 16 then byteAt rx n else dbufAt s.working.ops.dbuf n) ∧
    (∀ lo hi rx, Fresh (.read c a) s → readReady c s.regs.seq = true →
      s.params.checkRxCrc = false → rx.length = 18 →
      ∃ t d, converse [.ack, .done, .res lo hi, .ack, .done, .rx rx 144] s = .next t ∧
        t.phase = .idle ∧ t.result = .ok ∧ t.cause = .none ∧
        t.regs = { s.regs with ops := { s.regs.ops with dbuf := d } } ∧
        ∀ n, dbufAt d n = if n < 16 then byteAt rx n else dbufAt s.regs.ops.dbuf n)

/-- R197, R198: WRITE_CLASSIC, its two phases and their ACKs. -/
def Obligations.WriteClassicMeaning : Prop :=
  ∀ (a : Byte) (s : State),
    (s.pcSeq = .start → s.regs.seq.state ≠ .authenticated →
      exec (.writeClassic a) s = .next (s.finish s.regs .error .command .seqState)) ∧
    (s.pcSeq = .start → s.regs.seq.state = .authenticated →
      exec (.writeClassic a) s = .next (s.ask s.regs .writeCrc .start (.crcStart [0xA0, a]))) ∧
    (∀ lo hi, s.pcSeq = .at .writeCrc .read → s.feAns = some (.res lo hi) →
      exec (.writeClassic a) s = .next (s.ask s.working .writeTrx .start
        (.trxStart [0xA0, a, lo, hi] 0))) ∧
    (∀ lo hi, s.pcSeq = .at .dataCrc .read → s.feAns = some (.res lo hi) →
      exec (.writeClassic a) s = .next (s.ask s.working .dataTrx .start
        (.trxStart (s.opsnap.dbuf.toList.take 16 ++ [lo, hi]) 0))) ∧
    (∀ rx bits, s.feAns = some (.rx rx bits) →
      let ack := bits = 4 ∧ (byteAt rx 0).extractLsb' 0 4 = 0xA
      (s.pcSeq = .at .writeTrx .read → ack → exec (.writeClassic a) s =
        .next (s.ask s.working .dataCrc .start (.crcStart (s.opsnap.dbuf.toList.take 16)))) ∧
      (s.pcSeq = .at .dataTrx .read → ack → exec (.writeClassic a) s =
        .next (s.finish s.working .ok .none .none)) ∧
      (s.pcSeq = .at .writeTrx .read ∨ s.pcSeq = .at .dataTrx .read → ¬ack →
        exec (.writeClassic a) s =
          .next (s.finish s.working.sessionAbort .error .protocol .nak)))

/-- R199: WRITE_NTAG, one 4-byte page and its ACK. -/
def Obligations.WriteNtagMeaning : Prop :=
  ∀ (a : Byte) (s : State),
    let frame := [0xA2, a] ++ s.opsnap.dbuf.toList.take 4
    (s.pcSeq = .start → readReady .ntag s.regs.seq = false →
      exec (.writeNtag a) s = .next (s.finish s.regs .error .command .seqState)) ∧
    (s.pcSeq = .start → readReady .ntag s.regs.seq = true →
      exec (.writeNtag a) s = .next (s.ask s.regs .writeCrc .start (.crcStart frame))) ∧
    (∀ lo hi, s.pcSeq = .at .writeCrc .read → s.feAns = some (.res lo hi) →
      exec (.writeNtag a) s = .next (s.ask s.working .writeTrx .start
        (.trxStart (frame ++ [lo, hi]) 0))) ∧
    (∀ rx bits, s.pcSeq = .at .writeTrx .read → s.feAns = some (.rx rx bits) →
      let ack := bits = 4 ∧ (byteAt rx 0).extractLsb' 0 4 = 0xA
      (ack → exec (.writeNtag a) s = .next (s.finish s.working .ok .none .none)) ∧
      (¬ack → exec (.writeNtag a) s =
        .next (s.finish s.working.sessionAbort .error .protocol .nak)))

/-- R180, R175, R181: a whole SCAN of a two-level cascade gives the 7-byte UID: the marker and the
check bytes left out, the bytes in order, and the tag selected at level 1 on the way. -/
def Obligations.ScanResolvesASevenByteUid : Prop :=
  ∀ (s : State) (m : ReqMode) (a0 a1 b1 b2 b3 lo hi sak k1 k2 c0 c1 c2 c3 : Byte),
    Fresh (.scan m) s → s.regs.seq.cryptoHeld = false → s.params.checkRxCrc = false →
    c0 ≠ 0x88 →
    ∃ t, converse
      ([.ack, .done, .rx [a0, a1] 16] ++
       [.ack, .done, .rx [0x88, b1, b2, b3, 0x88 ^^^ b1 ^^^ b2 ^^^ b3] 40] ++
       [.ack, .done, .res lo hi] ++ [.ack, .done, .rx [sak, k1, k2] 24] ++
       [.ack, .done, .rx [c0, c1, c2, c3, c0 ^^^ c1 ^^^ c2 ^^^ c3] 40]) s = .next t ∧
      t.phase = .idle ∧ t.result = .ok ∧ t.cause = .none ∧
      t.regs = { s.regs with seq := {
        state := .anticoll, uidValid := true, cryptoHeld := false, level := 2, ct := false
        uid := [b1, b2, b3, c0, c1, c2, c3], atqa := a1 ++ a0, sak := sak
        cl1 := #v[0x88, b1, b2, b3, 0x88 ^^^ b1 ^^^ b2 ^^^ b3]
        cl2 := #v[c0, c1, c2, c3, c0 ^^^ c1 ^^^ c2 ^^^ c3]
        cl3 := Vector.replicate 5 0 } }

/-- R90, R91, R92, R79, R87, R164 to R167, R186: how every exchange of a CRC command and of a SEQ
command but STOPCRYPTO runs: the start's ACK goes to the first poll, a poll not done to the next up
to the bound, a done one to the read; and what ends it early: a bus failure anywhere, no response, a
fault, or the last poll of the bound not done. A SEQ command then ends the session; a CRC command
keeps it, and a bus failure in a whole CRC command leaves every register, CRC_RES among them, as it
was. -/
def Obligations.ExchangesRunAsTheHelpersSay : Prop :=
  (∀ (i : Instr) (s : State) (x : Stage) (p : Prim),
    isTagCommand i = true ∨ i = .crcCalc ∨ i = .crcCheck → stageOf i x = true →
    s.pcSeq = .at x p →
    let ended := if isTagCommand i = true then s.working.sessionAbort else s.working
    (p = .start → s.feAns = some .ack → ∃ r, primReq x .poll r = true ∧
      exec i s = .next ((s.setPoll 1).ask s.working x .poll r)) ∧
    (p = .poll → s.feAns = some .notdone → s.pollcnt ≠ pollBound s x →
      ∃ r, primReq x .poll r = true ∧
        exec i s = .next ((s.setPoll (s.pollcnt + 1)).ask s.working x .poll r)) ∧
    (p = .poll → s.feAns = some .done → ∃ r, primReq x .read r = true ∧
      exec i s = .next (s.ask s.working x .read r)) ∧
    (s.feAns = some .busfail →
      exec i s = .next (s.finish ended .error .transport .feBus)) ∧
    (helperOf x ≠ .crc → p = .poll → s.feAns = some .noresp →
      exec i s = .next (s.finish s.working.tagGone .notag .none .noResponse)) ∧
    (helperOf x ≠ .crc → p = .poll → s.feAns = some .fault →
      exec i s = .next (s.finish ended .error .protocol .feFault)) ∧
    (helperOf x ≠ .crc → p = .poll → s.feAns = some .notdone → s.pollcnt = s.params.fePollMax →
      exec i s = .next (s.finish ended .error .protocol .fePollTimeout)) ∧
    (helperOf x = .crc → p = .poll → s.feAns = some .notdone → s.pollcnt = 255 →
      exec i s = .next (s.finish ended .error .protocol .crcPollTimeout))) ∧
  (∀ (s : State) (i : Instr) (k : Nat),
    (i = .crcCalc ∧ s.opsnap.len.toNat ≤ 32 ∨
      i = .crcCheck ∧ 3 ≤ s.opsnap.len.toNat ∧ s.opsnap.len.toNat ≤ 32) → Fresh i s → k < 255 →
    ∀ as ∈ [[.busfail], [.ack] ++ List.replicate k .notdone ++ [.busfail],
        [.ack] ++ List.replicate k .notdone ++ [.done, .busfail]],
      ∃ t, converse as s = .next t ∧ t.phase = .idle ∧ t.result = .error ∧
        t.errClass = .transport ∧ t.cause = .feBus ∧ t.regs = s.regs)

/-- R186: a SEQ command other than STOPCRYPTO that is past its preconditions and finishes NOTAG has
called `tag_gone`, and one that finishes ERROR, for any class and cause, has called `session_abort`,
each with the effect R185 gives it;
one that finishes at its start has been refused and changes no register. -/
def Obligations.TagFailuresEndTheSession : Prop :=
  ∀ (i : Instr) (s t : State), isTagCommand i = true → s.phase = .exec → exec i s = .next t →
    t.phase = .idle →
    (∀ x p, s.pcSeq = .at x p →
      (t.result = .ok ∧ t.errClass = .none ∧ t.cause = .none) ∨
      (t.result = .notag ∧ t.cause = .noResponse ∧
        t.regs = { s.working with seq := { s.working.seq with
          state := .idle, level := 0, ct := false, uidValid := false, uid := [] } }) ∨
      (t.result = .error ∧
        t.regs = { s.working with seq := { s.working.seq with
          state := .idle, level := 0, ct := false } })) ∧
    (s.pcSeq = .start → t.result = .error ∧ t.errClass = .command ∧ t.regs = s.regs)

/-! ### The whole machine -/

/-- The invariant holds after power-on reset. -/
def Obligations.ResetMeetsTheInvariant : Prop := Inv State.reset

/-- R182, R192, R214, R77: from every state that meets the invariant, every step, whichever agent
takes it, gives a state that meets it: the session stays a row of R182's table, AUTHENTICATED keeps
CRYPTO_HELD set, STATUS stays a row of the cause table, and the engine stays at a position of its
command with one exchange in flight at most. -/
def Obligations.EveryStepKeepsTheInvariant : Prop :=
  ∀ s t : State, Inv s → step s = .next t → Inv t

/-- U9: in a state that meets the invariant no step faults, and the only refusals are the accesses
and answers the environment has no right to. The faults and refusals are the model's treatment of
what the spec gives no step (notes/assumptions/12.md, 14.md). -/
def Obligations.NoStepFaults : Prop :=
  ∀ s : State, Inv s →
    (∀ f, step s ≠ .fault f) ∧
    (∀ r, step s = .refused r →
      (∃ off bytes rest, s.env = .hostRead off bytes :: rest ∧ r = .hostAccess) ∨
      (∃ off bytes v rest, s.env = .hostWrite off bytes v :: rest ∧ r = .hostAccess) ∨
      (∃ a rest, s.env = .answer a :: rest ∧ (r = .answerNotAwaited ∨ r = .answerOutsideAlphabet)))

/-- R129 under the fairness of R78: against any front-end that answers every request from its
alphabet, every command finishes, with at most `budget` requests more, and no command's budget
exceeds `6N + 526`, or `6N + 1040` where reply CRCs are checked (notes/assumptions/10.md). -/
def Obligations.EveryCommandFinishes : Prop :=
  ∀ (f : Nat → FeReq → FeAns) (s : State), (∀ (n : Nat) (r : FeReq), r.accepts (f n r) = true) →
    Inv s → s.phase = .exec → s.feDiscard = false →
    (∃ t, serveWith f (3 * budget s + 3) s = .next t ∧ t.phase = .idle ∧ Inv t) ∧
    budget s ≤ 6 * s.params.fePollMax + 526 + (if s.params.checkRxCrc then 514 else 0)

/-- R191: CRYPTO_HELD is cleared only by STOPCRYPTO and a power-on reset. That STOPCRYPTO clears it
at its finish rests on R55 and on the model's reading of it (notes/assumptions/8.md). -/
def Obligations.OnlyStopCryptoReleasesTheLock : Prop :=
  ∀ s t : State, Inv s → step s = .next t → s.regs.seq.cryptoHeld = true →
    t.regs.seq.cryptoHeld = false →
    (∃ rest, s.env = .powerOn :: rest) ∨
    (s.phase = .exec ∧ decode s.cur = .ok .stopCrypto ∧ t.phase = .idle)

/-! ### Host conventions -/

/-- R209: the four stored bytes of a number, and that it reads back as itself; R210: the Classic
unit of a number, which reads back the same, and the number slot, given or by default; R204, R206: a
text without a 0x00 that fits reads back as itself, whatever follows its terminator in the area.
These host procedures as pure functions over byte addresses are the model's reading
(notes/assumptions/19.md); a page number past 255 taken modulo 256, the first page as the default
slot of an area of no pages, and the unit of a number outside the range of R209 are its choices
(notes/assumptions/25.md). -/
def Obligations.StoredNumbersAndTextsReadBack : Prop :=
  (∀ n : Int, -2147483648 ≤ n → n < 2147483648 →
    HostConv.numberBytes n =
      [(BitVec.ofInt 32 n).extractLsb' 0 8, (BitVec.ofInt 32 n).extractLsb' 8 8,
       (BitVec.ofInt 32 n).extractLsb' 16 8, (BitVec.ofInt 32 n).extractLsb' 24 8] ∧
    HostConv.numberOf (HostConv.numberBytes n) = n) ∧
  (∀ b0 b1 b2 b3 : Byte,
    HostConv.numberOf [b0, b1, b2, b3] = (b3 ++ b2 ++ b1 ++ b0 : BitVec 32).toInt) ∧
  HostConv.numberBytes (-42) = [0xD6, 0xFF, 0xFF, 0xFF] ∧
  (∀ n : Int, HostConv.classicNumberUnit n = HostConv.numberBytes n ++ List.replicate 12 0 ∧
    HostConv.numberOf (HostConv.classicNumberUnit n) =
      HostConv.numberOf (HostConv.numberBytes n)) ∧
  (∀ p : HostConv.HostParams,
    (p.numberSlot = none → p.classicNumberSlot = p.classicBlocks[8] ∧
      p.ntagNumberSlot = BitVec.ofNat 8 (p.ntagFirstPage + (p.ntagPages - 1))) ∧
    (∀ a, p.numberSlot = some a → p.classicNumberSlot = a ∧ p.ntagNumberSlot = a)) ∧
  (∀ (cap : Nat) (t rest : List Byte), (∀ b ∈ t, b ≠ 0) → t.length < cap →
    HostConv.readText (HostConv.textStream cap t ++ rest) = t) ∧
  (∀ (cap : Nat) (t : List Byte), (∀ b ∈ t, b ≠ 0) → cap ≤ t.length →
    HostConv.readText (HostConv.textStream cap t) = t.take cap)
end

