-- ==== Sys2Proof/Laws/PerInstr.lean ====
section
/-! SUPPORT. The family `WordFields`, one lemma per instruction: the fields of the encoded word
(30_encoding.md R96, R97, R100) and that the word passes the reserved-bit check (R101 step 2). The
lemmas on the fields of any assembled word come first. -/

namespace Sys2Proof.Laws.WordFields

theorem wordOp_encode (i : Instr) : wordOp (encode i) = i.op.code := by
  apply BitVec.eq_of_getLsbD_eq
  intro n hn
  simp only [wordOp, encode, BitVec.getLsbD_extractLsb', BitVec.getLsbD_append]
  have h : n < 16 := by omega
  simp [hn, h]

theorem wordF_encode (i : Instr) : wordF (encode i) = i.f := by
  apply BitVec.eq_of_getLsbD_eq
  intro n hn
  simp only [wordF, encode, BitVec.getLsbD_extractLsb', BitVec.getLsbD_append]
  have h : 8 + n < 16 := by omega
  simp [hn, h]

theorem wordA_encode (i : Instr) : wordA (encode i) = i.addr := by
  apply BitVec.eq_of_getLsbD_eq
  intro n hn
  simp only [wordA, encode, BitVec.getLsbD_extractLsb', BitVec.getLsbD_append]
  have h : ¬(16 + n < 16) := by omega
  simp [hn]

theorem wordRsv_encode (i : Instr) : wordRsv (encode i) = 0 := by
  apply BitVec.eq_of_getLsbD_eq
  intro n hn
  simp only [wordRsv, encode, BitVec.getLsbD_extractLsb', BitVec.getLsbD_append]
  have h : ¬(24 + n < 16) := by omega
  have h2 : ¬(24 + n - 16 < 8) := by omega
  simp [hn, h, h2]

/-- A two-bit field in the low bits of F has no bit outside the field (R97). -/
theorem level_reserved (l : BitVec 2) : l.setWidth 8 &&& ~~~(0x03#8) = 0#8 := by
  revert l; decide

/-- What the encoding of `i` must satisfy: its four fields are those of the instruction, and no
reserved bit is set. -/
def Statement (i : Instr) : Prop :=
  wordOp (encode i) = i.op.code ∧ wordF (encode i) = i.f ∧ wordA (encode i) = i.addr ∧
  wordRsv (encode i) = 0 ∧ reservedClear i.op (encode i) = true

/-- The family follows from the F and A operands alone. -/
theorem of_fields (i : Instr) (hf : i.f &&& ~~~i.op.fBits = 0)
    (ha : i.op.hasAddr = true ∨ i.addr = 0) : Statement i := by
  refine ⟨wordOp_encode i, wordF_encode i, wordA_encode i, wordRsv_encode i, ?_⟩
  simp only [reservedClear, wordRsv_encode, wordF_encode, wordA_encode, hf]
  rcases ha with h | h <;> simp [h]

theorem nop : Statement .nop := of_fields _ rfl (.inr rfl)
theorem bmeCalCommit : Statement .bmeCalCommit := of_fields _ rfl (.inr rfl)
theorem bmeCalClear : Statement .bmeCalClear := of_fields _ rfl (.inr rfl)
theorem bmeT : Statement .bmeT := of_fields _ rfl (.inr rfl)
theorem bmeP : Statement .bmeP := of_fields _ rfl (.inr rfl)
theorem bmeH : Statement .bmeH := of_fields _ rfl (.inr rfl)
theorem bmeAll : Statement .bmeAll := of_fields _ rfl (.inr rfl)
theorem msCalCommit : Statement .msCalCommit := of_fields _ rfl (.inr rfl)
theorem msCalClear : Statement .msCalClear := of_fields _ rfl (.inr rfl)
theorem msComp : Statement .msComp := of_fields _ rfl (.inr rfl)
theorem crcCalc : Statement .crcCalc := of_fields _ rfl (.inr rfl)
theorem crcCheck : Statement .crcCheck := of_fields _ rfl (.inr rfl)
theorem request (m : ReqMode) : Statement (.request m) := of_fields _ (by cases m <;> decide) (.inr rfl)
theorem anticoll (l : BitVec 2) : Statement (.anticoll l) := of_fields _ (level_reserved l) (.inr rfl)
theorem select (l : BitVec 2) : Statement (.select l) := of_fields _ (level_reserved l) (.inr rfl)
theorem scan (m : ReqMode) : Statement (.scan m) := of_fields _ (by cases m <;> decide) (.inr rfl)
theorem auth (k : KeyType) (a : Byte) : Statement (.auth k a) := of_fields _ (by cases k <;> simp [Instr.f, KeyType.toF, Instr.op, Op.fBits]) (.inl rfl)
theorem stopCrypto : Statement .stopCrypto := of_fields _ rfl (.inr rfl)
theorem read (c : CardKind) (a : Byte) : Statement (.read c a) := of_fields _ (by cases c <;> simp [Instr.f, CardKind.toF, Instr.op, Op.fBits]) (.inl rfl)
theorem writeClassic (a : Byte) : Statement (.writeClassic a) := of_fields _ (by simp [Instr.f]) (.inl rfl)
theorem writeNtag (a : Byte) : Statement (.writeNtag a) := of_fields _ (by simp [Instr.f]) (.inl rfl)

end Sys2Proof.Laws.WordFields
end

