-- ==== Sys2Proof/Laws/Arith.lean ====
section
/-! SUPPORT. The exact-integer shifts and division of 00_scope.md R12 and the register value of an
integer: what each is, its bounds and its monotonicity, so that proofs about the compensation chains
never unfold them. -/

namespace Sys2Proof.Machine

/-- A right shift is floor division by the power of two (R12). -/
theorem shr_eq_fdiv (a : Int) (k : Nat) : shr a k = Int.fdiv a (2 ^ k) :=
  (Int.fdiv_eq_ediv_of_nonneg a (by positivity)).symm

/-- A left shift is multiplication by the power of two (R12). -/
theorem shl_eq_mul (a : Int) (k : Nat) : shl a k = a * 2 ^ k := rfl

/-- The bracket that defines the floor (R12). -/
theorem shr_bounds (a : Int) (k : Nat) : shr a k * 2 ^ k ≤ a ∧ a < (shr a k + 1) * 2 ^ k := by
  have hp : (0 : Int) < 2 ^ k := by positivity
  have h1 := Int.mul_ediv_add_emod a (2 ^ k)
  have h2 := Int.emod_nonneg a hp.ne'
  have h3 := Int.emod_lt_of_pos a hp
  unfold shr
  constructor <;> nlinarith

/-- A right shift is monotone. -/
theorem shr_mono {a b : Int} (h : a ≤ b) (k : Nat) : shr a k ≤ shr b k :=
  Int.ediv_le_ediv (by positivity) h

/-- A right shift keeps a lower bound given at the shifted scale. -/
theorem le_shr {a b : Int} {k : Nat} (h : a * 2 ^ k ≤ b) : a ≤ shr b k :=
  (Int.le_ediv_iff_mul_le (by positivity)).mpr h

/-- A right shift keeps an upper bound given at the shifted scale. -/
theorem shr_le {a b : Int} {k : Nat} (h : b < (a + 1) * 2 ^ k) : shr b k ≤ a :=
  Int.lt_add_one_iff.mp ((Int.ediv_lt_iff_lt_mul (by positivity)).mpr h)

/-- A value that fits reads back from its register as itself (R41, R45). -/
theorem toInt_toWord {v : Int} (h : fit32 v = true) : (toWord v).toInt = v := by
  simp only [fit32, decide_eq_true_eq] at h
  simp only [toWord, BitVec.toInt_ofInt]
  exact Int.bmod_eq_of_le (by norm_num at h ⊢; omega) (by norm_num at h ⊢; omega)

/-- The 16-bit value of a low and a high byte splits into them again (R67, R68). -/
theorem le16_pair16 (lo hi : Byte) : le16 (pair16 lo hi) = [lo, hi] := by
  simp only [le16, pair16, List.cons.injEq, and_true]
  constructor <;> apply BitVec.eq_of_getLsbD_eq <;> intro n hn <;>
    rw [BitVec.getLsbD_extractLsb'] <;> erw [BitVec.getLsbD_append] <;> simp [hn]

/-- The sixteen bytes that READ stores, and the rest unchanged (R195). -/
theorem dbufAt_load16 (d : Vector Byte 32) (bs : List Byte) (n : Nat) :
    dbufAt (dbufLoad16 d bs) n = if n < 16 then byteAt bs n else dbufAt d n := by
  unfold dbufAt dbufLoad16
  by_cases h : n < 32
  · by_cases h16 : n < 16 <;> simp [h, h16]
  · have : ¬n < 16 := by omega
    simp [h, this]

end Sys2Proof.Machine
end

