-- ==== Sys2Proof/Laws/HostPort.lean ====
section
/-! SUPPORT. The register map of 10_state.md R21 as facts about offsets: which register stands where,
and that no two share an offset, so that proofs about the window never unfold the map; and the fields of
the words the status registers show, so that none unfolds those words. -/

namespace Sys2Proof.Machine

/-- A register found at an offset is a row of the map. -/
theorem mem_regMap_of_ofOffset {off : Nat} {r : Reg} (h : Reg.ofOffset off = some r) :
    (off, r) ∈ regMap := by
  simp only [Reg.ofOffset, Option.map_eq_some_iff] at h
  obtain ⟨⟨o, r'⟩, he, rfl⟩ := h
  have hm := List.mem_of_find?_eq_some he
  have ho := List.find?_some he
  simp only [beq_iff_eq] at ho
  exact ho ▸ hm

/-- No two rows share an offset, and no two a register. -/
theorem regMap_offsets_nodup : (regMap.map (·.1)).Nodup := by decide

theorem regMap_regs_nodup : (regMap.map (·.2)).Nodup := by decide

/-- Every row of the map is found at its offset. -/
theorem ofOffset_of_mem_regMap {off : Nat} {r : Reg} (h : (off, r) ∈ regMap) :
    Reg.ofOffset off = some r := by
  have hall : ∀ e ∈ regMap, Reg.ofOffset e.1 = some e.2 := by decide
  exact hall (off, r) h

/-- The BME shadow registers lie at `0x040 + 4 * index` (R35). -/
theorem ofOffset_bme (k : BmeCoef) : Reg.ofOffset (0x040 + 4 * k.index) = some (.bme k) := by
  cases k <;> decide

/-- The MS shadow registers lie at `0x0C0 + 4 * i` (R42). -/
theorem ofOffset_ms (i : Fin 7) : Reg.ofOffset (0x0C0 + 4 * i.val) = some (.ms i) := by
  revert i; decide

/-- The buffer registers lie at `0x120 + 4 * w` (R51). -/
theorem ofOffset_dbuf (w : Fin 8) : Reg.ofOffset (0x120 + 4 * w.val) = some (.dbuf w) := by
  revert w; decide

/-! ### Accesses at mapped offsets (R57, R63 to R65) -/

/-- Every register lies at a multiple of 4 inside the window (R21, R63). -/
theorem accessOk_of_ofOffset {off : Nat} {r : Reg} (h : Reg.ofOffset off = some r) :
    accessOk off 4 = true := by
  have hall : ∀ e ∈ regMap, accessOk e.1 4 = true := by decide
  exact hall _ (mem_regMap_of_ofOffset h)

/-- A host write at a register's offset is that register's write (R65). -/
theorem hostWrite_mapped {off : Nat} {r : Reg} (h : Reg.ofOffset off = some r) (v : Word)
    (s : State) : hostWrite off 4 v s = .next (s.writeReg v r) := by
  simp only [hostWrite, accessOk_of_ofOffset h, if_true, State.writeWindow, h]

/-- A host read at a register's offset is that register's read view (R64). -/
theorem window_mapped {off : Nat} {r : Reg} (h : Reg.ofOffset off = some r) (s : State) :
    s.window off = s.readReg r := by
  simp only [State.window, h]

/-- An operand write while idle changes the registers (R57). -/
theorem operandWrite_idle {s : State} (h : s.phase = .idle) (f : Regs → Regs) :
    s.operandWrite f = { s with regs := f s.regs } := by
  simp [State.operandWrite, State.busy, h]

/-- An operand write while busy only sets WBUSY (R57). -/
theorem operandWrite_busy {s : State} (h : s.phase = .exec) (f : Regs → Regs) :
    s.operandWrite f = { s with wbusy := true } := by
  simp [State.operandWrite, State.busy, h]

/-! ### The fields of the words the host reads (R25 to R34, R67) -/

/-- The fields of STATUS (R25). -/
theorem statusWord_fields (s : State) :
    s.statusWord.getLsbD 0 = s.busy ∧ s.statusWord.getLsbD 1 = s.done ∧
    s.statusWord.extractLsb' 2 2 = s.result.code ∧ s.statusWord.extractLsb' 4 3 = s.errClass.code ∧
    s.statusWord.getLsbD 7 = false ∧ s.statusWord.extractLsb' 8 8 = s.cause.code ∧
    s.statusWord.extractLsb' 16 8 = s.lastOp ∧ s.statusWord.getLsbD 24 = s.overrun ∧
    s.statusWord.getLsbD 25 = s.wbusy ∧ s.statusWord.extractLsb' 26 6 = 0 := by
  and_intros <;>
    first
    | (apply BitVec.eq_of_getLsbD_eq
       intro i hi
       simp only [State.statusWord, BitVec.getLsbD_extractLsb', BitVec.getLsbD_append]
       interval_cases i <;> simp)
    | (simp only [State.statusWord, BitVec.getLsbD_append]; simp)

/-- The fields of IRQ (R30). -/
theorem irqWord_fields (s : State) :
    s.irqWord.getLsbD 0 = s.irqEn ∧ s.irqWord.getLsbD 1 = s.irqPend ∧
    s.irqWord.extractLsb' 2 30 = 0 := by
  have h : ∀ p e : Bool,
      (0#30 ++ BitVec.ofBool p ++ BitVec.ofBool e).getLsbD 0 = e ∧
      (0#30 ++ BitVec.ofBool p ++ BitVec.ofBool e).getLsbD 1 = p ∧
      (0#30 ++ BitVec.ofBool p ++ BitVec.ofBool e).extractLsb' 2 30 = 0 := by decide
  exact h _ _

/-- The fields of SESSION (R31). -/
theorem sessionWord_fields (q : SeqUnit) :
    q.sessionWord.extractLsb' 0 3 = q.state.code ∧ q.sessionWord.getLsbD 3 = q.uidValid ∧
    q.sessionWord.getLsbD 4 = q.cryptoHeld ∧ q.sessionWord.extractLsb' 5 2 = q.level ∧
    q.sessionWord.getLsbD 7 = q.ct ∧
    q.sessionWord.extractLsb' 8 4 = BitVec.ofNat 4 q.uid.length ∧
    q.sessionWord.extractLsb' 12 20 = 0 := by
  and_intros <;>
    first
    | (apply BitVec.eq_of_getLsbD_eq
       intro i hi
       simp only [SeqUnit.sessionWord, SeqUnit.uidLen, BitVec.getLsbD_extractLsb',
         BitVec.getLsbD_append]
       interval_cases i <;> simp)
    | (simp only [SeqUnit.sessionWord, BitVec.getLsbD_append]; simp)

/-- The fields of CALSTAT (R33). -/
theorem calstatWord_fields (r : Regs) :
    r.calstatWord.getLsbD 0 = r.bme.valid ∧ r.calstatWord.getLsbD 1 = r.ms.valid ∧
    r.calstatWord.getLsbD 2 = r.bme.tfineValid ∧ r.calstatWord.extractLsb' 3 5 = 0 ∧
    r.calstatWord.extractLsb' 8 7 = r.ms.wmask ∧ r.calstatWord.extractLsb' 15 17 = 0 := by
  and_intros <;>
    first
    | (apply BitVec.eq_of_getLsbD_eq
       intro i hi
       simp only [Regs.calstatWord, BitVec.getLsbD_extractLsb', BitVec.getLsbD_append]
       interval_cases i <;> simp)
    | (simp only [Regs.calstatWord, BitVec.getLsbD_append]; simp)

/-- The bytes of a packed word (R67). -/
theorem packWord_bytes (b0 b1 b2 b3 : Byte) :
    wordBytes (packWord b0 b1 b2 b3) = [b0, b1, b2, b3] := by
  simp only [wordBytes, wordByte, packWord, List.cons.injEq, and_true]
  and_intros <;> apply BitVec.eq_of_getLsbD_eq <;> intro i hi <;>
    simp only [BitVec.getLsbD_extractLsb', BitVec.getLsbD_append] <;> interval_cases i <;> simp

end Sys2Proof.Machine
end

