-- ==== Sys2Proof/Tests/Slice0.lean ====
section
/-! SUPPORT. Tests. The expected values come from spec/: the words from the encoding tables of
30_encoding.md (R96 to R110), the results from 95_test_vectors.md (L1 to L3). Each test is one step on
a small state. The `witness_` theorems show, for each statement with hypotheses, a concrete state that
meets them, clause by clause. -/

namespace Sys2Proof.Tests

open Sys2Proof.Machine Sys2Proof.Safety

/-! ### Helpers -/

/-- A field of the next state, none at a stop. -/
def got {α : Type} (o : Out) (f : State → α) : Option α :=
  match o with
  | .next s => some (f s)
  | .fault _ => none
  | .refused _ => none

/-- The command word `w` just accepted, with session registers `q`. -/
def freshAt (w : Word) (q : SeqUnit) : State :=
  { State.reset with regs := { Regs.reset with seq := q } }.accept w

/-- The command word `w` at primitive `p` of stage `x` with answer `a` in hand. -/
def posAt (w : Word) (q : SeqUnit) (x : Stage) (p : Prim) (a : FeAns) : State :=
  { freshAt w q with
    pcSeq := .at x p, feAns := some a, work := some { Regs.reset with seq := q }, pollcnt := 1 }

/-- IDLE with nothing accumulated. -/
def idleQ : SeqUnit := SeqUnit.reset

/-- REQUESTED. -/
def requestedQ : SeqUnit := { SeqUnit.reset with state := .requested, atqa := 0x0044 }

/-- ANTICOLL at level 1 with the UID of L1.5. -/
def anticollQ : SeqUnit :=
  { requestedQ with
    state := .anticoll, level := 1, uidValid := true, uid := [0xDE, 0xAD, 0xBE, 0xEF]
    cl1 := #v[0xDE, 0xAD, 0xBE, 0xEF, 0x22] }

/-- SELECTED at level 1 with that UID. -/
def selectedQ : SeqUnit := { anticollQ with state := .selected, sak := 0x08 }

/-- SELECTED at level 1 of a cascade that goes on. -/
def cascadeQ : SeqUnit :=
  { requestedQ with
    state := .selected, level := 1, ct := true, uid := [0x04, 0x11, 0x22], sak := 0x04
    cl1 := #v[0x88, 0x04, 0x11, 0x22, 0xBF] }

/-- SELECTED at level 2 of a cascade that goes on. -/
def cascade2Q : SeqUnit :=
  { cascadeQ with level := 2, uid := [0x04, 0x11, 0x22, 0x33, 0x44, 0x55] }

/-- AUTHENTICATED with CRYPTO_HELD. -/
def authedQ : SeqUnit := { selectedQ with state := .authenticated, cryptoHeld := true }

/-- A state with the operand registers `o` sampled and live. -/
def withOps (s : State) (o : Operands) : State :=
  { s with regs := { s.regs with ops := o }, opsnap := o }

/-- A state with reply CRCs checked. -/
def checking (s : State) : State := { s with params := { s.params with checkRxCrc := true } }

/-- The BME280 shadows "G4" of 95_test_vectors.md L2.2. -/
def g4Shadow : BmeShadow :=
  { t1 := 27504, t2 := 26435, t3 := BitVec.ofInt 16 (-1000), p1 := 36477
    p2 := BitVec.ofInt 16 (-10685), p3 := 3024, p4 := 2855, p5 := 140, p6 := BitVec.ofInt 16 (-7)
    p7 := 15500, p8 := BitVec.ofInt 16 (-14600), p9 := 6000, h1 := 75, h2 := 362, h3 := 0
    hpk0 := 0x13, hpk1 := 0x29, hpk2 := 0x03, h6 := 30 }

/-- The active set "G4": H4 = 313 and H5 = 50. -/
def g4Cal : BmeCal :=
  { t1 := 27504, t2 := 26435, t3 := BitVec.ofInt 16 (-1000), p1 := 36477
    p2 := BitVec.ofInt 16 (-10685), p3 := 3024, p4 := 2855, p5 := 140, p6 := BitVec.ofInt 16 (-7)
    p7 := 15500, p8 := BitVec.ofInt 16 (-14600), p9 := 6000, h1 := 75, h2 := 362, h3 := 0
    h4 := 313, h5 := 50, h6 := 30 }

/-- The raw samples of L1.1 and L2.2. -/
def rawOps : Operands := { Operands.reset with rawT := 519888, rawP := 415148, rawH := 30000 }

/-- A BME command accepted with an active set, those samples and `TFINE` of L1.1. -/
def bmeAt (w : Word) (c : BmeCal) (tf : Bool) : State :=
  let s := freshAt w idleQ
  { withOps s rawOps with regs := { s.regs with
      ops := rawOps
      bme := { BmeUnit.reset with cal := c, valid := true, tfineValid := tf, tfine := 128422 } } }

/-- An active set whose pressure divisor is 0 (L2.2). -/
def guardCal : BmeCal := { g4Cal with p1 := 0 }

/-- An active set whose pressure does not fit 32 bits (L2.2): P1 = 1 and the rest 0. -/
def rangeCal : BmeCal := { BmeCal.reset with p1 := 1 }

/-- The MS5637 coefficients of L1.4. -/
def msSet : MsCal :=
  { c0 := 0, c1 := 46372, c2 := 43981, c3 := 29059, c4 := 27842, c5 := 31553, c6 := 28165 }

/-- MS_COMP accepted with that set and samples `d1` and `d2`. -/
def msAt (d1 d2 : BitVec 24) : State :=
  let s := withOps (freshAt 0x22 idleQ) { Operands.reset with d1 := d1, d2 := d2 }
  { s with regs := { s.regs with ms := { MsUnit.reset with cal := msSet, valid := true } } }

/-- A data buffer that starts with the given bytes. -/
def buf (bs : List Byte) : Vector Byte 32 := Vector.ofFn fun i => byteAt bs i.val

/-- A CRC command accepted with `LEN` and a buffer. -/
def crcAt (w : Word) (n : BitVec 6) (bs : List Byte) : State :=
  withOps (freshAt w idleQ) { Operands.reset with len := n, dbuf := buf bs }

/-- The same command with the answer to its last request in hand. -/
def crcRead (s : State) (a : FeAns) : State :=
  { s with pcSeq := .at .crc .read, feAns := some a, work := some s.regs, pollcnt := 1 }

/-! ### Well-formedness (R97, R101) -/

theorem test_wf_refuses_anticoll_level_0 : (Instr.anticoll 0).wf = false := by decide
theorem test_wf_refuses_select_level_0 : (Instr.select 0).wf = false := by decide
theorem test_wf_accepts_the_levels : (Instr.anticoll 1).wf && (Instr.select 3).wf = true := by decide

/-! ### Decoding: words written out as `RSV A F OP` (R96, R97, R100) -/

theorem test_decode_nop : decode 0b00000000_00000000_00000000_00000000#32 = .ok .nop := by decide
theorem test_decode_bmeCalCommit :
    decode 0b00000000_00000000_00000000_00010000#32 = .ok .bmeCalCommit := by decide
theorem test_decode_bmeCalClear :
    decode 0b00000000_00000000_00000000_00010001#32 = .ok .bmeCalClear := by decide
theorem test_decode_bmeT : decode 0b00000000_00000000_00000000_00010010#32 = .ok .bmeT := by decide
theorem test_decode_bmeP : decode 0b00000000_00000000_00000000_00010011#32 = .ok .bmeP := by decide
theorem test_decode_bmeH : decode 0b00000000_00000000_00000000_00010100#32 = .ok .bmeH := by decide
theorem test_decode_bmeAll : decode 0b00000000_00000000_00000000_00010101#32 = .ok .bmeAll := by
  decide
theorem test_decode_msCalCommit :
    decode 0b00000000_00000000_00000000_00100000#32 = .ok .msCalCommit := by decide
theorem test_decode_msCalClear :
    decode 0b00000000_00000000_00000000_00100001#32 = .ok .msCalClear := by decide
theorem test_decode_msComp : decode 0b00000000_00000000_00000000_00100010#32 = .ok .msComp := by
  decide
theorem test_decode_crcCalc : decode 0b00000000_00000000_00000000_00110000#32 = .ok .crcCalc := by
  decide
theorem test_decode_crcCheck :
    decode 0b00000000_00000000_00000000_00110001#32 = .ok .crcCheck := by decide
theorem test_decode_request :
    decode 0b00000000_00000000_00000001_01000000#32 = .ok (.request .wupA) := by decide
theorem test_decode_anticoll :
    decode 0b00000000_00000000_00000010_01000001#32 = .ok (.anticoll 2) := by decide
theorem test_decode_select :
    decode 0b00000000_00000000_00000011_01000010#32 = .ok (.select 3) := by decide
theorem test_decode_scan :
    decode 0b00000000_00000000_00000000_01000011#32 = .ok (.scan .reqA) := by decide
theorem test_decode_auth :
    decode 0b00000000_00000111_00000001_01000100#32 = .ok (.auth .keyB 7) := by decide
theorem test_decode_stopCrypto :
    decode 0b00000000_00000000_00000000_01000101#32 = .ok .stopCrypto := by decide
theorem test_decode_read :
    decode 0b00000000_00000100_00000001_01000110#32 = .ok (.read .classic 4) := by decide
theorem test_decode_writeClassic :
    decode 0b00000000_00001000_00000000_01000111#32 = .ok (.writeClassic 8) := by decide
theorem test_decode_writeNtag :
    decode 0b00000000_00100111_00000000_01001000#32 = .ok (.writeNtag 0x27) := by decide

/-- L2.1 rows 2 to 7, and the word with several faults. -/
theorem test_decode_refusals :
    decode 0x000000FF = .error .unknownOpcode ∧ decode 0x00010012 = .error .reservedBits ∧
    decode 0x00000100 = .error .reservedBits ∧ decode 0x00000041 = .error .badField ∧
    decode 0x01000000 = .error .reservedBits ∧ decode 0x00000441 = .error .reservedBits ∧
    decode 0x01000099 = .error .unknownOpcode := by decide

/-- L2.1 row 8. -/
theorem test_encode :
    encode (.request .wupA) = 0x00000140 ∧ encode (.anticoll 2) = 0x00000241 ∧
    encode (.auth .keyB 0x07) = 0x00070144 ∧ encode (.read .classic 4) = 0x00040146 ∧
    encode (.writeNtag 0x27) = 0x00270048 ∧ encode .stopCrypto = 0x00000045 := by decide

/-- The table's numbering of an instruction's bits. -/
theorem test_table_word :
    decodeTableWord 32 0x00040146 = some (.read .classic 4) ∧
    decodeTableWord 32 0x00000041 = none := by decide

/-- The first step after `withFetchWord` runs the word from reset. -/
theorem test_fetch_word_runs :
    got (step (State.reset.withFetchWord 32 0)) (fun s => s.window 0x00C) = some 0x00000002 := by
  decide

/-! ### One step of each command -/

/-- L2.1 rows 1 and 2. -/
theorem test_nop : got (exec .nop (freshAt 0 idleQ)) State.statusWord = some 0x00000002 := by decide
theorem test_illegal :
    got (engineStep (freshAt 0xFF idleQ)) State.statusWord = some 0x00FF014A := by decide

/-- L2.2: the active H4 and H5 of G4. -/
theorem test_bme_cal_commit :
    got (exec .bmeCalCommit
      (let s := withOps (freshAt 0x10 idleQ) { rawOps with bmeShadow := g4Shadow }
       { s with regs := { s.regs with bme := { BmeUnit.reset with wmask := 0x7FFFF } } }))
      (fun s => (s.regs.bme.cal, s.regs.calstatWord)) = some (g4Cal, 1) := by decide
theorem test_bme_cal_commit_incomplete :
    got (exec .bmeCalCommit (freshAt 0x10 idleQ)) State.statusWord = some 0x0010113A := by decide
theorem test_bme_cal_clear :
    got (exec .bmeCalClear (bmeAt 0x11 g4Cal true))
      (fun s => (s.regs.calstatWord, s.regs.bme.cal)) = some (0, g4Cal) := by decide
/-- L1.1. -/
theorem test_bme_t :
    got (exec .bmeT (bmeAt 0x12 g4Cal false)) (fun s => (s.regs.bme.tfine, s.regs.bme.tOut)) =
      some (128422, 2508) := by decide
/-- L1.1: 100656 Pa; and the guard of L2.2. -/
theorem test_bme_p :
    got (exec .bmeP (bmeAt 0x13 g4Cal true)) (fun s => s.regs.bme.pOut) = some 100656 := by decide
theorem test_bme_p_guard :
    got (exec .bmeP (bmeAt 0x13 guardCal true)) State.statusWord = some 0x0013133A := by decide
/-- L2.2: RAW_H = 30000 gives 56317. -/
theorem test_bme_h :
    got (exec .bmeH (bmeAt 0x14 g4Cal true)) (fun s => s.regs.bme.hOut) = some 56317 := by decide
theorem test_bme_h_stale :
    got (exec .bmeH (bmeAt 0x14 g4Cal false)) State.statusWord = some 0x0014123A := by decide
/-- L3.1. -/
theorem test_bme_all :
    got (exec .bmeAll (bmeAt 0x15 g4Cal false))
      (fun s => (s.statusWord, s.regs.bme.tOut, s.regs.bme.pOut, s.regs.bme.hOut)) =
      some (0x00150002, 0x9CC, 0x18930, 0xDBFD) := by decide
/-- L2.2: the guard of BME_ALL keeps temperature and humidity. -/
theorem test_bme_all_guard :
    got (exec .bmeAll (bmeAt 0x15 guardCal false))
      (fun s => (s.statusWord, s.regs.bme.tOut, s.regs.bme.pOut, s.regs.bme.hOut)) =
      some (0x0015133A, 0x9CC, 0, 0xDBFD) := by decide

theorem test_ms_cal_commit :
    got (exec .msCalCommit
      (let s := withOps (freshAt 0x20 idleQ) { Operands.reset with msShadow := msSet }
       { s with regs := { s.regs with ms := { MsUnit.reset with wmask := 0x7F } } }))
      (fun s => (s.regs.ms.cal, s.regs.calstatWord)) = some (msSet, 2) := by decide
theorem test_ms_cal_clear :
    got (exec .msCalClear (msAt 0 0)) (fun s => (s.regs.ms.valid, s.regs.ms.cal)) =
      some (false, msSet) := by decide
/-- L1.4 and the very low branch of L2.3. -/
theorem test_ms_comp :
    got (exec .msComp (msAt 6465444 8077636)) (fun s => (s.regs.ms.temp, s.regs.ms.press)) =
      some (2000, 110002) := by decide
theorem test_ms_comp_very_low :
    got (exec .msComp (msAt 6465444 6077636)) (fun s => (s.regs.ms.temp, s.regs.ms.press)) =
      some (BitVec.ofInt 32 (-6111), 88003) := by decide

/-- L2.4: the bytes handed over, and the published CRC. -/
theorem test_crc_calc :
    got (exec .crcCalc (crcAt 0x30 2 [0x30, 0x04])) (fun s => s.feReq) =
      some (some (.crcStart [0x30, 0x04])) := by decide
theorem test_crc_calc_result :
    got (exec .crcCalc (crcRead (crcAt 0x30 2 [0x30, 0x04]) (.res 0x26 0xEE)))
      (fun s => (s.regs.crcRes, s.statusWord)) = some (0xEE26, 0x00300002) := by decide
theorem test_crc_check_match :
    got (exec .crcCheck (crcRead (crcAt 0x31 4 [0x30, 0x04, 0x26, 0xEE]) (.res 0x26 0xEE)))
      State.statusWord = some 0x00310002 := by decide
theorem test_crc_check_mismatch :
    got (exec .crcCheck (crcRead (crcAt 0x31 4 [0x30, 0x04, 0xEE, 0x26]) (.res 0x26 0xEE)))
      (fun s => (s.statusWord, s.regs.crcRes)) = some (0x0031352A, 0xEE26) := by decide

/-- L2.5: the ATQA. -/
theorem test_request :
    got (exec (.request .reqA) (posAt 0x40 idleQ .request .read (.rx [0x44, 0x00] 16)))
      (fun s => (s.statusWord, s.regs.seq.atqa, s.regs.seq.sessionWord)) =
      some (0x00400002, 0x0044, 1) := by decide
theorem test_request_no_response :
    got (exec (.request .reqA) (posAt 0x40 idleQ .request .poll .noresp)) State.statusWord =
      some 0x00404006 := by decide
/-- L1.5. -/
theorem test_anticoll :
    got (exec (.anticoll 1)
      (posAt 0x141 requestedQ (.anticoll 1) .read (.rx [0xDE, 0xAD, 0xBE, 0xEF, 0x22] 40)))
      (fun s => (s.statusWord, s.regs.seq.uidWord 0, s.regs.seq.sessionWord)) =
      some (0x00410002, 0xEFBEADDE, 0x42A) := by decide
theorem test_anticoll_bcc :
    got (exec (.anticoll 1)
      (posAt 0x141 requestedQ (.anticoll 1) .read (.rx [0xDE, 0xAD, 0xBE, 0xEF, 0x23] 40)))
      (fun s => (s.statusWord, s.regs.seq.sessionWord)) = some (0x0041342A, 0) := by decide
/-- L2.5: the SELECT frame and its SAK. -/
theorem test_select :
    got (exec (.select 1)
      (posAt 0x142 anticollQ (.selectTrx 1) .read (.rx [0x08, 0xB6, 0xDD] 24)))
      (fun s => (s.statusWord, s.regs.seq.sak, s.regs.seq.sessionWord)) =
      some (0x00420002, 0x08, 0x42B) := by decide
theorem test_select_frame :
    got (exec (.select 1) (posAt 0x142 anticollQ (.selectCrc 1) .read (.res 0xB9 0x9C)))
      (fun s => s.feReq) =
      some (some (.trxStart [0x93, 0x70, 0xDE, 0xAD, 0xBE, 0xEF, 0x22, 0xB9, 0x9C] 0)) := by decide
/-- R180: a marker at level 1 goes on to SELECT, and at level 3 ends the command. -/
theorem test_scan_cascade :
    got (exec (.scan .reqA)
      (posAt 0x43 requestedQ (.anticoll 1) .read (.rx [0x88, 0x04, 0x11, 0x22, 0xBF] 40)))
      (fun s => s.feReq) =
      some (some (.crcStart [0x93, 0x70, 0x88, 0x04, 0x11, 0x22, 0xBF])) := by decide
theorem test_scan_depth :
    got (exec (.scan .reqA)
      (posAt 0x43 cascade2Q (.anticoll 3) .read (.rx [0x88, 0x66, 0x77, 0x88, 0x11] 40)))
      State.statusWord = some 0x0043382A := by decide
/-- L2.6: the payload of AUTH A, 4. -/
theorem test_auth :
    got (exec (.auth .keyA 4)
      (withOps (freshAt 0x40044 selectedQ)
        { Operands.reset with keyLo := 0xFFFFFFFF, keyHi := 0xFFFF, authUid := 0xEFBEADDE }))
      (fun s => s.feReq) =
      some (some (.authStart
        [0x60, 0x04, 0xFF, 0xFF, 0xFF, 0xFF, 0xFF, 0xFF, 0xDE, 0xAD, 0xBE, 0xEF])) := by decide
theorem test_auth_held :
    got (exec (.auth .keyA 8) (freshAt 0x80044 authedQ)) State.statusWord = some 0x0044054A := by
  decide
theorem test_stop_crypto :
    got (exec .stopCrypto (freshAt 0x45 authedQ))
      (fun s => (s.feReq, s.working.seq.sessionWord, s.regs.seq.sessionWord)) =
      some (some .cryptoOff, 0x408, 0x43C) := by decide
theorem test_stop_crypto_bus :
    got (exec .stopCrypto (posAt 0x45 idleQ .cryptoOff .start .busfail)) State.statusWord =
      some 0x0045201A := by decide
/-- L2.6: READ's data and its NAK. -/
theorem test_read :
    got (exec (.read .ntag 4) (posAt 0x40046 selectedQ .readTrx .read
      (.rx [0, 1, 2, 3, 4, 5, 6, 7, 8, 9, 10, 11, 12, 13, 14, 15, 0x77, 0xF5] 144)))
      (fun s => (s.statusWord, dbufWord s.regs.ops.dbuf 3, dbufWord s.regs.ops.dbuf 4)) =
      some (0x00460002, 0x0F0E0D0C, 0) := by decide
theorem test_read_nak :
    got (exec (.read .ntag 4) (posAt 0x40046 selectedQ .readTrx .read (.rx [0x00] 4)))
      State.statusWord = some 0x0046362A := by decide
/-- L2.6: the second phase starts on the ACK. -/
theorem test_write_classic :
    got (exec (.writeClassic 4) (posAt 0x40047 authedQ .writeTrx .read (.rx [0x0A] 4)))
      (fun s => s.pcSeq) = some (.at .dataCrc .start) := by decide
theorem test_write_classic_nak :
    got (exec (.writeClassic 4) (posAt 0x40047 authedQ .dataTrx .read (.rx [0x04] 4)))
      State.statusWord = some 0x0047362A := by decide
/-- L2.6: the frame of WRITE_NTAG, and an ACK whose high bits are not read. -/
theorem test_write_ntag :
    got (exec (.writeNtag 4)
      (withOps (freshAt 0x40048 selectedQ)
        { Operands.reset with dbuf := buf [0x48, 0x65, 0x6C, 0x6C] })) (fun s => s.feReq) =
      some (some (.crcStart [0xA2, 0x04, 0x48, 0x65, 0x6C, 0x6C])) := by decide
theorem test_write_ntag_ack :
    got (exec (.writeNtag 4) (posAt 0x40048 selectedQ .writeTrx .read (.rx [0xFA] 4)))
      State.statusWord = some 0x00480002 := by decide

/-! ### The host port and the conventions -/

/-- L2.1 rows 14 to 16. -/
theorem test_window :
    State.reset.window 0x000 = 0x50430700 ∧ State.reset.window 0x3FC = 0 ∧
    got (hostWrite 0x110 4 0xFFFFFFFF State.reset) (fun s => s.window 0x110) = some 0 := by decide
/-- L2.2: T3 and H6 read back sign-extended. -/
theorem test_shadow_readback :
    got (hostWrite 0x048 4 0x0000FC18 State.reset) (fun s => s.window 0x048) = some 0xFFFFFC18 ∧
    got (hostWrite 0x088 4 0x000000E2 State.reset) (fun s => s.window 0x088) = some 0xFFFFFFE2 := by
  decide
/-- L2.1 rows 9 and 10. -/
theorem test_overrun_and_wbusy :
    got (hostWrite 0x008 4 0 (freshAt 0x43 idleQ)) (fun s => (s.overrun, s.cur)) =
      some (true, 0x43) ∧
    got (hostWrite 0x0A0 4 5 (freshAt 0x43 idleQ)) (fun s => (s.wbusy, s.regs.ops.rawT)) =
      some (true, 0) := by decide
/-- L1.8: -42 is stored as D6 FF FF FF. -/
theorem test_number_bytes :
    HostConv.numberBytes (-42) = [0xD6, 0xFF, 0xFF, 0xFF] ∧
    HostConv.numberOf [0xD6, 0xFF, 0xFF, 0xFF] = -42 := by decide
/-- L1.8 with R203, R210 and R211: the area of either medium, its default slot, which is the area's
last unit, a given slot, and the moves that write -42. -/
theorem test_number_slot :
    let p := HostConv.HostParams.default
    p.ntagArea.length = 36 ∧ p.ntagArea.head? = some 4 ∧ p.ntagNumberSlot = 39 ∧ p.ntagCap = 144 ∧
    p.classicArea = [1, 2, 4, 5, 6, 8, 9, 10, 12] ∧ p.classicNumberSlot = 12 ∧
    HostConv.classicCap = 144 ∧ p.delaysOk = true ∧
    p.ntagArea.getLast? = some p.ntagNumberSlot ∧
    p.classicArea.getLast? = some p.classicNumberSlot ∧
    { p with numberSlot := some 9 }.classicNumberSlot = 9 ∧
    HostConv.ntagNumberWrite p (-42) =
      [.hostWrite 0x120 4 0xFFFFFFD6, .hostWrite 0x008 4 0x00270048] ∧
    HostConv.classicNumberWrite p (-42) =
      [.hostWrite 0x120 4 0xFFFFFFD6, .hostWrite 0x124 4 0, .hostWrite 0x128 4 0,
       .hostWrite 0x12C 4 0, .hostWrite 0x008 4 0x000C0047] := by decide
/-- R241: a host access to come, a running command and a late answer each keep a run open. -/
theorem test_run_over :
    runOver State.reset = true ∧ runOver { State.reset with env := [.engine] } = true ∧
    runOver { State.reset with env := [.engine, .hostRead 0x00C 4] } = false ∧
    runOver { State.reset with env := [.hostWrite 0x008 4 0] } = false ∧
    runOver (freshAt 0 idleQ) = false ∧ runOver { State.reset with feDiscard := true } = false := by
  decide
/-- R89: the CRC of READ page 4, as in L2.4. -/
theorem test_crc_a : crcA [0x30, 0x04] = 0xEE26 := by decide

/-! ### A command just accepted (R117) -/

/-- `freshAt` has just accepted the command its word decodes to. -/
theorem freshAt_fresh {w : Word} {i : Instr} (q : SeqUnit) (h : decode w = .ok i) :
    Fresh i (freshAt w q) where
  phase := rfl
  word := h
  pos := rfl
  noReq := rfl
  noAns := rfl
  noWait := rfl
  noDiscard := rfl
  noWork := rfl

/-- Sampled operands leave a command just accepted. -/
theorem crcAt_fresh {w : Word} {i : Instr} (n : BitVec 6) (bs : List Byte) (h : decode w = .ok i) :
    Fresh i (crcAt w n bs) :=
  { freshAt_fresh idleQ h with }

/-! ### Witnesses: a state that meets the hypotheses of each statement -/

theorem witness_LegalCommandsDecodeFromTheirWords :
    (Instr.anticoll 1).wf = true ∧ (Instr.select 3).wf = true ∧ (Instr.auth .keyB 255).wf = true := by
  decide

theorem witness_EveryWordIsACommandOrIllegal :
    (Instr.read .classic 255).wf = true ∧ encode (.read .classic 255) = 0x00FF0146 ∧
    decode 0x00FF0146 = .ok (.read .classic 255) ∧ decode 0xFFFFFFFF = .error .unknownOpcode := by
  decide

theorem witness_IllegalWordIsAcceptedAndReported :
    State.reset.phase = .idle ∧ State.reset.feWait = false ∧ State.reset.feReq = none ∧
    decode 0x000000FF = .error .unknownOpcode ∧ decode 0x00010012 = .error .reservedBits ∧
    decode 0x00000042 = .error .badField := by decide

theorem witness_StepRunsTheAcceptedCommand :
    let s := freshAt 0x45 authedQ
    s.phase = .exec ∧ s.feWait = false ∧ s.feReq = none ∧ decode s.cur = .ok .stopCrypto ∧
    s.env = [] ∧ { s with env := [.engine] }.env = .engine :: [] ∧
    { s with env := [.hostRead 0x00C 4] }.env = .hostRead 0x00C 4 :: [] ∧
    { s with env := [.hostWrite 0x004 4 1, .engine] }.env = .hostWrite 0x004 4 1 :: [.engine] ∧
    { s with env := [.answer .ack] }.env = .answer .ack :: [] := by decide

/-- STOPCRYPTO with its request next, and with it out. -/
def offNext : State := (freshAt 0x45 authedQ).ask
  { Regs.reset with seq := authedQ.release } .cryptoOff .start .cryptoOff
def offOut : State := { offNext with feWait := true }

/-- AUTH with its first request next. -/
def authNext : State := (freshAt 0x40044 selectedQ).ask
  { Regs.reset with seq := selectedQ } .auth .start (.authStart [0x60, 0x04])

theorem witness_RequestsAreMadeAndAnswered :
    (offNext.phase = .exec ∧ offNext.feReq = some .cryptoOff ∧ offNext.feWait = false ∧
    offNext.feDiscard = false ∧ { offNext with feDiscard := true }.feDiscard = true ∧
    offOut.phase = .exec ∧ offOut.feReq = some .cryptoOff ∧ offOut.feWait = true ∧
    offOut.feDiscard = false ∧ FeReq.cryptoOff.accepts .ack = true ∧
    FeReq.cryptoOff.accepts .done = false ∧ authNext.phase = .exec ∧ authNext.feWait = false ∧
    authNext.feDiscard = false ∧ authNext.feReq = some (.authStart [0x60, 0x04])) ∧
    ∀ d, FeReq.cryptoOff ≠ .authStart d := ⟨by decide, fun _ => FeReq.noConfusion⟩

theorem witness_FinishReportsAndPublishes :
    Regs.reset = State.reset.regs ∧ 0x000 ≠ 0x00C ∧ 0x000 ≠ 0x010 := by decide

theorem witness_LegalityChecksInOrder :
    decode 0x000000FF = .error .unknownOpcode ∧ decode 0x00010012 = .error .reservedBits ∧
    decode 0x00000041 = .error .badField ∧ (∃ o : Op, o.code = 0x12) ∧ decode 0 = .ok .nop :=
  ⟨by decide, by decide, by decide, ⟨.bmeT, rfl⟩, by decide⟩

theorem witness_CmdWriteAcceptsOrOverruns :
    State.reset.phase = .idle ∧ State.reset.feWait = false ∧ State.reset.feReq = none ∧ offOut.phase = .exec := by decide

theorem witness_OperandWritesAreLockedWhileBusy :
    Reg.ofOffset 0x0A0 = some .rawT ∧ isOperand .rawT = true ∧ offOut.phase = .exec ∧
    State.reset.phase = .idle ∧ Reg.ofOffset 0x13C = some (.dbuf 7) ∧
    isOperand (.dbuf 7) = true ∧ Reg.ofOffset 0x000 = some .id ∧ isReadOnly .id = true ∧
    Reg.ofOffset 0x164 = some (.clW1 3) ∧ isReadOnly (.clW1 3) = true := by decide

theorem witness_WorkingCopiesStayHiddenUntilFinish :
    engineStep authNext = .next (authNext.issue (.authStart [0x60, 0x04])) ∧
    (authNext.issue (.authStart [0x60, 0x04])).phase = .exec ∧
    engineStep offNext = .next (offNext.issue .cryptoOff) ∧
    (offNext.issue .cryptoOff).phase = .exec := ⟨rfl, by decide, rfl, by decide⟩

theorem witness_HostReadsAreIdempotent :
    (0x3FC % 4 = 0 ∧ 0x3FC < 1024) ∧ ¬(4 = 4 ∧ 0x400 % 4 = 0 ∧ 0x400 < 1024) ∧
    ¬(2 = 4 ∧ 0 % 4 = 0 ∧ 0 < 1024) ∧ ¬(4 = 4 ∧ 0x002 % 4 = 0 ∧ 0x002 < 1024) ∧
    Reg.ofOffset 0x3FC = none ∧
    (9 < 10 ∧ 9 < { idleQ with uid := List.replicate 10 0x5A }.uid.length) ∧
    (3 < 12 ∧ 9 < 12 ∧ 11 < 12 ∧ 10 ≤ 11) ∧ cascadeQ.uid.length ≤ 3 ∧ 31 < 32 := by decide

theorem witness_ShadowWritesReadBack :
    State.reset.phase = .idle ∧ offOut.phase = .exec ∧ BmeCoef.h6 ≠ .t1 ∧ (6 : Fin 7) ≠ 0 := by decide

theorem witness_RawWritesStoreTheirWidths :
    State.reset.phase = .idle ∧ offOut.phase = .exec ∧ 
    0x114 ∈ [0x0A0, 0x0A4, 0x0A8, 0x0E0, 0x0E4, 0x100, 0x10C, 0x110, 0x114] := by
  decide

theorem witness_DbufWordsAreLittleEndian :
    State.reset.phase = .idle ∧ 3 / 4 ≠ (1 : Fin 8).val ∧ 8 / 4 ≠ (1 : Fin 8).val ∧
    32 / 4 ≠ (7 : Fin 8).val ∧ 3 < 4 := by decide

theorem witness_PowerOnResetValues :
    { offOut with env := [.powerOn] }.env = .powerOn :: [] := by decide

theorem witness_SoftResetKeepsCryptoHeld :
    (1#32).getLsbD 0 = true ∧ (0xFFFFFFFE#32).getLsbD 0 = false := by decide

/-- The reset state with a late answer due, and with a SCAN accepted meanwhile. -/
def dueState : State := { State.reset with feDiscard := true }
def dueScan : State := { freshAt 0x43 idleQ with feDiscard := true }

theorem witness_LateAnswerIsAbsorbed :
    dueState.feDiscard = true ∧ engineStep dueState = .next dueState ∧ dueState.feWait = false ∧
    dueScan.feDiscard = true ∧ dueScan.feWait = false ∧
    ∃ t, engineStep dueScan = .next t := ⟨rfl, rfl, rfl, rfl, rfl, _, rfl⟩

theorem witness_BmeCalibrationCommands :
    { BmeUnit.reset with wmask := 0x7FFFF }.wmask = 0x7FFFF ∧
    State.reset.regs.bme.wmask ≠ 0x7FFFF := by decide

theorem witness_BmeTComputesTemperature :
    (freshAt 0x12 idleQ).regs.bme.valid = false ∧
    (bmeAt 0x12 g4Cal false).regs.bme.valid = true := by decide

theorem witness_BmePComputesPressure :
    (freshAt 0x13 idleQ).regs.bme.valid = false ∧
    (bmeAt 0x13 g4Cal false).regs.bme.valid = true ∧
    (bmeAt 0x13 g4Cal false).regs.bme.tfineValid = false ∧
    (bmeAt 0x13 g4Cal true).regs.bme.tfineValid = true ∧
    bmePress 415148 128422 guardCal.press = none ∧
    bmePress 415148 128422 g4Cal.press = some 100656 ∧
    (bmePress 0 128422 rangeCal.press).map (fun p => decide (p < 2147483648)) = some false := by decide

theorem witness_BmeHComputesHumidity :
    (freshAt 0x14 idleQ).regs.bme.valid = false ∧
    (bmeAt 0x14 g4Cal false).regs.bme.valid = true ∧
    (bmeAt 0x14 g4Cal false).regs.bme.tfineValid = false ∧
    (bmeAt 0x14 g4Cal true).regs.bme.tfineValid = true := by decide

theorem witness_BmeAllComputesTheReading :
    (freshAt 0x15 idleQ).regs.bme.valid = false ∧
    (bmeAt 0x15 g4Cal false).regs.bme.valid = true ∧
    bmePress 415148 (bmeTemp 519888 27504 26435 (-1000)).2 guardCal.press = none ∧
    bmePress 415148 (bmeTemp 519888 27504 26435 (-1000)).2 g4Cal.press = some 100656 ∧
    (bmePress 0 (bmeTemp 0 0 0 0).2 rangeCal.press).map (fun p => decide (p < 2147483648)) =
      some false := by decide

theorem witness_BmeAllEqualsTheSeparateCommands :
    (bmeAt 0x15 g4Cal false).regs.bme.valid = true := by decide

theorem witness_MsCalibrationCommands :
    { MsUnit.reset with wmask := 0x7F }.wmask = 0x7F ∧ State.reset.regs.ms.wmask ≠ 0x7F := by decide

theorem witness_MsCompComputesBoth :
    (freshAt 0x22 idleQ).regs.ms.valid = false ∧ (msAt 0 0).regs.ms.valid = true := by decide

/-- The first domain of R158 and its counter-example of L1.3, and SENS = 0. -/
theorem witness_MsPressureIsMonotoneInD1 :
    0 ≤ (msSecond .datasheet (msFirst 8077636 msSet.coef)).sens ∧
    (msSecond .datasheet (msFirst 0 msSet.coef)).sens = -5149508542 ∧
    (msSecond .zero (msFirst 0 MsCal.reset.coef)).sens = 0 := by decide

theorem witness_CrcCalcPublishesTheCrc :
    (crcAt 0x30 33 []).pcSeq = .start ∧ 32 < (crcAt 0x30 33 []).opsnap.len.toNat ∧
    (crcAt 0x30 32 []).pcSeq = .start ∧ (crcAt 0x30 32 []).opsnap.len.toNat ≤ 32 ∧
    (crcRead (crcAt 0x30 2 []) (.res 0x26 0xEE)).pcSeq = .at .crc .read ∧
    (crcRead (crcAt 0x30 2 []) (.res 0x26 0xEE)).feAns = some (.res 0x26 0xEE) := by decide

theorem witness_CrcCheckComparesTheCrc :
    (crcAt 0x31 2 []).pcSeq = .start ∧ (crcAt 0x31 2 []).opsnap.len.toNat < 3 ∧
    32 < (crcAt 0x31 33 []).opsnap.len.toNat ∧ 3 ≤ (crcAt 0x31 3 []).opsnap.len.toNat ∧
    (crcAt 0x31 32 []).opsnap.len.toNat ≤ 32 ∧
    (let s := crcRead (crcAt 0x31 4 [0x30, 0x04, 0x26, 0xEE]) (.res 0x26 0xEE)
     s.pcSeq = .at .crc .read ∧ s.feAns = some (.res 0x26 0xEE) ∧
     (0xEE#8 ++ 0x26#8) = dbufAt s.opsnap.dbuf 3 ++ dbufAt s.opsnap.dbuf 2) ∧
    (let s := crcRead (crcAt 0x31 4 [0x30, 0x04, 0xEE, 0x26]) (.res 0x26 0xEE)
     (0xEE#8 ++ 0x26#8) ≠ dbufAt s.opsnap.dbuf 3 ++ dbufAt s.opsnap.dbuf 2) := by decide

theorem witness_CrcCalcConversation :
    Fresh .crcCalc (crcAt 0x30 32 []) ∧ (crcAt 0x30 32 []).opsnap.len.toNat ≤ 32 ∧ 254 < 255 :=
  ⟨crcAt_fresh _ _ rfl, by decide⟩

theorem witness_CrcPollTimesOutAfter255 :
    Fresh .crcCalc (crcAt 0x30 0 []) ∧ Fresh .crcCheck (crcAt 0x31 3 []) ∧
    (crcAt 0x30 0 []).opsnap.len.toNat ≤ 32 ∧ 3 ≤ (crcAt 0x31 3 []).opsnap.len.toNat ∧
    (crcAt 0x31 32 []).opsnap.len.toNat ≤ 32 :=
  ⟨crcAt_fresh _ _ rfl, crcAt_fresh _ _ rfl, by decide⟩

theorem witness_CrcCommandsLeaveTheSession :
    (crcAt 0x31 3 []).working.seq = (crcAt 0x31 3 []).regs.seq ∧
    (crcAt 0x31 3 []).working.ops = (crcAt 0x31 3 []).regs.ops ∧
    ∃ t, exec .crcCheck (crcAt 0x31 3 []) = .next t := ⟨rfl, rfl, _, rfl⟩

/-- The frame of L2.4 with its CRC and with the CRC's bytes swapped, and the shortest and the longest
frame of the statement. -/
theorem witness_ConformingFrontEndPassesCrcCheck :
    (let s := crcAt 0x31 4 [0x30, 0x04, 0x26, 0xEE]
     Fresh .crcCheck s ∧ s.opsnap.len.toNat = [0x30#8, 0x04#8].length + 2 ∧
     s.opsnap.dbuf.toList.take 4 = [0x30, 0x04] ++ [0x26, 0xEE] ∧
     (0xEE#8 ++ 0x26#8) = crcA [0x30, 0x04]) ∧
    (let s := crcAt 0x31 4 [0x30, 0x04, 0xEE, 0x26]
     Fresh .crcCheck s ∧ s.opsnap.len.toNat = [0x30#8, 0x04#8].length + 2 ∧
     s.opsnap.dbuf.toList.take 4 = [0x30, 0x04] ++ [0xEE, 0x26] ∧
     (0x26#8 ++ 0xEE#8) ≠ crcA [0x30, 0x04]) ∧
    (let s := crcAt 0x31 3 [0x30]
     Fresh .crcCheck s ∧ s.opsnap.len.toNat = [0x30#8].length + 2 ∧
     s.opsnap.dbuf.toList.take 3 = [0x30] ++ [0, 0]) ∧
    (let s := crcAt 0x31 32 []
     Fresh .crcCheck s ∧ s.opsnap.len.toNat = (List.replicate 30 0#8).length + 2 ∧
     s.opsnap.dbuf.toList.take 32 = List.replicate 30 0 ++ [0, 0]) :=
  ⟨⟨crcAt_fresh _ _ rfl, by decide⟩, ⟨crcAt_fresh _ _ rfl, by decide⟩,
   ⟨crcAt_fresh _ _ rfl, by decide⟩, crcAt_fresh _ _ rfl, by decide⟩

theorem witness_RequestMeaning :
    (freshAt 0x40 authedQ).pcSeq = .start ∧ (freshAt 0x40 authedQ).regs.seq.cryptoHeld = true ∧
    (freshAt 0x40 idleQ).regs.seq.cryptoHeld = false ∧
    (let s := posAt 0x40 idleQ .request .read (.rx [0x44, 0x00] 16)
     s.pcSeq = .at .request .read ∧ s.feAns = some (.rx [0x44, 0x00] 16)) ∧
    (posAt 0x40 idleQ .request .read (.rx [0x44] 8)).feAns = some (.rx [0x44] 8) := by decide

theorem witness_AnticollMeaning :
    (freshAt 0x141 authedQ).pcSeq = .start ∧ (freshAt 0x141 authedQ).regs.seq.cryptoHeld = true ∧
    (freshAt 0x141 idleQ).regs.seq.cryptoHeld = false ∧ anticollReady idleQ 1 = false ∧
    anticollReady requestedQ 1 = true ∧ anticollReady cascade2Q 3 = true ∧
    (let s := posAt 0x341 cascade2Q (.anticoll 3) .read (.rx [0x88, 0x66, 0x77, 0x88, 0x11] 40)
     s.pcSeq = .at (.anticoll 3) .read ∧
     s.feAns = some (.rx [0x88, 0x66, 0x77, 0x88, 0x11] 40)) ∧
    (0x11#8) = 0x88 ^^^ 0x66 ^^^ 0x77 ^^^ 0x88 ∧ (0x22#8) = 0xDE ^^^ 0xAD ^^^ 0xBE ^^^ 0xEF ∧
    (0x23#8) ≠ 0xDE ^^^ 0xAD ^^^ 0xBE ^^^ 0xEF ∧ (0xBF#8) = 0x88 ^^^ 0x04 ^^^ 0x11 ^^^ 0x22 := by
  decide

theorem witness_SelectMeaning :
    (freshAt 0x142 authedQ).pcSeq = .start ∧ (freshAt 0x142 authedQ).regs.seq.cryptoHeld = true ∧
    (freshAt 0x142 idleQ).regs.seq.cryptoHeld = false ∧ selectReady idleQ 1 = false ∧
    selectReady anticollQ 1 = true ∧
    (let s := posAt 0x142 anticollQ (.selectCrc 1) .read (.res 0xB9 0x9C)
     s.pcSeq = .at (.selectCrc 1) .read ∧ s.feAns = some (.res 0xB9 0x9C)) ∧
    (let s := posAt 0x142 anticollQ (.selectTrx 1) .read (.rx [0x08, 0xB6, 0xDD] 24)
     s.pcSeq = .at (.selectTrx 1) .read ∧ s.feAns = some (.rx [0x08, 0xB6, 0xDD] 24) ∧
     s.params.checkRxCrc = false ∧ (checking s).params.checkRxCrc = true) ∧
    (let s := { posAt 0x142 anticollQ (.selectChk 1) .read (.res 0xB6 0xDD) with
       rxHeld := [0x08, 0xB6, 0xDD] }
     s.pcSeq = .at (.selectChk 1) .read ∧ s.feAns = some (.res 0xB6 0xDD) ∧
     (0xDD#8 ++ 0xB6#8) = byteAt s.rxHeld 2 ++ byteAt s.rxHeld 1) ∧
    (0xDE#8 ++ 0xB6#8) ≠ (0xDD#8 ++ 0xB6#8) := by decide

theorem witness_ScanMeaning :
    (freshAt 0x43 idleQ).pcSeq = .start ∧
    (let s := posAt 0x43 idleQ .request .read (.rx [0x44, 0x00] 16)
     s.pcSeq = .at .request .read ∧ s.feAns = some (.rx [0x44, 0x00] 16)) ∧
    (posAt 0x43 idleQ .request .read (.rx [0x44] 8)).feAns = some (.rx [0x44] 8) ∧
    (posAt 0x43 cascadeQ (.selectCrc 1) .read (.res 0xB3 0xF9)).pcSeq = .at (.selectCrc 1) .read ∧
    (let s := { posAt 0x43 cascadeQ (.selectChk 2) .read (.res 0xDA 0x17) with
       rxHeld := [0x04, 0xDA, 0x17] }
     s.pcSeq = .at (.selectChk 2) .read ∧ s.feAns = some (.res 0xDA 0x17) ∧
     (0x17#8 ++ 0xDA#8) = byteAt s.rxHeld 2 ++ byteAt s.rxHeld 1) ∧
    (let s := posAt 0x43 requestedQ (.anticoll 2) .read (.rx [0x88, 0x04, 0x11, 0x22, 0xBF] 40)
     s.pcSeq = .at (.anticoll 2) .read ∧ s.feAns = some (.rx [0x88, 0x04, 0x11, 0x22, 0xBF] 40)) ∧
    (0xBF#8) = 0x88 ^^^ 0x04 ^^^ 0x11 ^^^ 0x22 ∧ (2 : BitVec 2) ≠ 0 ∧ (2 : BitVec 2) ≠ 3 ∧
    (0xDE#8) ≠ 0x88 ∧ (0x22#8) = 0xDE ^^^ 0xAD ^^^ 0xBE ^^^ 0xEF ∧
    (let s := posAt 0x43 cascadeQ (.selectTrx 1) .read (.rx [0x04, 0xDA, 0x17] 24)
     s.pcSeq = .at (.selectTrx 1) .read ∧ s.feAns = some (.rx [0x04, 0xDA, 0x17] 24) ∧
     s.params.checkRxCrc = false) := by decide

theorem witness_AuthMeaning :
    (freshAt 0x40044 authedQ).pcSeq = .start ∧
    (freshAt 0x40044 authedQ).regs.seq.cryptoHeld = true ∧
    (freshAt 0x40044 idleQ).regs.seq.cryptoHeld = false ∧ authReady idleQ = false ∧
    authReady selectedQ = true ∧ (freshAt 0x40044 selectedQ).phase = .exec ∧
    (freshAt 0x40044 selectedQ).feWait = false ∧ (freshAt 0x40044 selectedQ).feDiscard = false ∧
    (freshAt 0x40044 selectedQ).regs.seq = selectedQ ∧ selectedQ.cryptoHeld = false ∧
    (posAt 0x40044 authedQ .auth .read .on).pcSeq = .at .auth .read ∧
    (posAt 0x40044 authedQ .auth .read .on).feAns = some .on ∧
    (posAt 0x40044 authedQ .auth .read .off).feAns = some .off := by decide

theorem witness_AuthConversation :
    Fresh (.auth .keyA 4) (freshAt 0x40044 selectedQ) ∧
    (freshAt 0x40044 selectedQ).regs.seq.cryptoHeld = false ∧
    (freshAt 0x40044 selectedQ).regs.seq.state = .selected ∧
    (freshAt 0x40044 selectedQ).regs.seq.uidValid = true ∧
    254 < (freshAt 0x40044 selectedQ).params.fePollMax :=
  ⟨freshAt_fresh _ rfl, by decide⟩

theorem witness_StopCryptoReleases :
    Fresh .stopCrypto (freshAt 0x45 authedQ) ∧
    (posAt 0x45 idleQ .cryptoOff .start .ack).pcSeq = .at .cryptoOff .start ∧
    (posAt 0x45 idleQ .cryptoOff .start .ack).feAns = some .ack ∧
    (posAt 0x45 idleQ .cryptoOff .start .busfail).feAns = some .busfail :=
  ⟨freshAt_fresh _ rfl, by decide⟩

theorem witness_ReadMeaning :
    Fresh (.read .classic 4) (freshAt 0x40146 authedQ) ∧
    (freshAt 0x40146 idleQ).pcSeq = .start ∧ readReady .classic selectedQ = false ∧
    readReady .classic authedQ = true ∧ readReady .ntag selectedQ = true ∧
    (let s := posAt 0x40046 selectedQ .readCrc .read (.res 0x26 0xEE)
     s.pcSeq = .at .readCrc .read ∧ s.feAns = some (.res 0x26 0xEE)) ∧
    (let s := posAt 0x40046 selectedQ .readTrx .read (.rx (List.replicate 18 0) 144)
     s.pcSeq = .at .readTrx .read ∧ s.feAns = some (.rx (List.replicate 18 0) 144) ∧
     s.params.checkRxCrc = false ∧ (checking s).params.checkRxCrc = true) ∧
    (let s := { posAt 0x40046 selectedQ .readChk .read (.res 0x77 0xF5) with
       rxHeld := List.replicate 16 0 ++ [0x77, 0xF5] }
     s.pcSeq = .at .readChk .read ∧ s.feAns = some (.res 0x77 0xF5) ∧
     (0xF5#8 ++ 0x77#8) = byteAt s.rxHeld 17 ++ byteAt s.rxHeld 16) ∧
    (0xF5#8 ++ 0x76#8) ≠ (0xF5#8 ++ 0x77#8) ∧
    (freshAt 0x40146 authedQ).regs.seq = authedQ ∧
    (freshAt 0x40146 authedQ).params.checkRxCrc = false ∧ (List.replicate 18 0x5A#8).length = 18 :=
  ⟨freshAt_fresh _ rfl, by decide⟩

theorem witness_WriteClassicMeaning :
    (freshAt 0x40047 selectedQ).pcSeq = .start ∧
    (freshAt 0x40047 selectedQ).regs.seq.state ≠ .authenticated ∧
    (freshAt 0x40047 authedQ).regs.seq.state = .authenticated ∧
    (posAt 0x40047 authedQ .writeCrc .read (.res 0x7B 0xF7)).pcSeq = .at .writeCrc .read ∧
    (posAt 0x40047 authedQ .dataCrc .read (.res 0x77 0xF5)).pcSeq = .at .dataCrc .read ∧
    (posAt 0x40047 authedQ .writeTrx .read (.rx [0x0A] 4)).pcSeq = .at .writeTrx .read ∧
    (posAt 0x40047 authedQ .dataTrx .read (.rx [0xFA] 4)).feAns = some (.rx [0xFA] 4) ∧
    (byteAt [0xFA] 0).extractLsb' 0 4 = 0xA#4 ∧ (byteAt [0x04] 0).extractLsb' 0 4 ≠ 0xA#4 := by
  decide

theorem witness_WriteNtagMeaning :
    (freshAt 0x40048 idleQ).pcSeq = .start ∧ readReady .ntag idleQ = false ∧
    readReady .ntag authedQ = true ∧
    (posAt 0x40048 selectedQ .writeCrc .read (.res 0x37 0x38)).pcSeq = .at .writeCrc .read ∧
    (posAt 0x40048 selectedQ .writeCrc .read (.res 0x37 0x38)).feAns = some (.res 0x37 0x38) ∧
    (posAt 0x40048 selectedQ .writeTrx .read (.rx [0xFA] 4)).pcSeq = .at .writeTrx .read ∧
    ¬(8 = 4 ∧ (byteAt [0x0A] 0).extractLsb' 0 4 = 0xA#4) := by decide

theorem witness_ScanResolvesASevenByteUid :
    Fresh (.scan .reqA) (freshAt 0x43 idleQ) ∧ (freshAt 0x43 idleQ).regs.seq.cryptoHeld = false ∧
    (freshAt 0x43 idleQ).params.checkRxCrc = false ∧ (0x33#8) ≠ 0x88 :=
  ⟨freshAt_fresh _ rfl, by decide⟩

theorem witness_ExchangesRunAsTheHelpersSay :
    Fresh .crcCalc (crcAt 0x30 32 []) ∧ Fresh .crcCheck (crcAt 0x31 3 []) ∧
    isTagCommand (.read .ntag 4) = true ∧ stageOf (.read .ntag 4) .readTrx = true ∧
    stageOf (.read .ntag 4) .readCrc = true ∧ stageOf (.auth .keyA 4) .auth = true ∧
    (posAt 0x40046 selectedQ .readTrx .poll .noresp).pcSeq = .at .readTrx .poll ∧
    (posAt 0x40046 selectedQ .readTrx .poll .busfail).feAns = some .busfail ∧
    helperOf .readTrx ≠ .crc ∧ helperOf .auth ≠ .crc ∧ helperOf .readCrc = .crc ∧
    (posAt 0x40046 selectedQ .readTrx .start .ack).feAns = some .ack ∧
    (posAt 0x40046 selectedQ .readTrx .poll .done).feAns = some .done ∧
    { posAt 0x40046 selectedQ .readTrx .poll .notdone with pollcnt := 254 }.pollcnt ≠
      pollBound (posAt 0x40046 selectedQ .readTrx .poll .notdone) .readTrx ∧
    { posAt 0x40046 selectedQ .readTrx .poll .notdone with pollcnt := 255 }.pollcnt =
      (posAt 0x40046 selectedQ .readTrx .poll .notdone).params.fePollMax ∧
    isTagCommand .crcCalc = false ∧ stageOf .crcCalc .crc = true ∧ stageOf .crcCheck .crc = true ∧
    helperOf .crc = .crc ∧ (posAt 0x30 idleQ .crc .start .busfail).pcSeq = .at .crc .start ∧
    (posAt 0x31 idleQ .crc .read .busfail).feAns = some .busfail ∧
    { posAt 0x31 idleQ .crc .poll .notdone with pollcnt := 254 }.pollcnt ≠
      pollBound (posAt 0x31 idleQ .crc .poll .notdone) .crc ∧
    { posAt 0x31 idleQ .crc .poll .notdone with pollcnt := 255 }.pollcnt = 255 ∧
    (crcAt 0x30 32 []).opsnap.len.toNat ≤ 32 ∧ 3 ≤ (crcAt 0x31 3 []).opsnap.len.toNat ∧
    (crcAt 0x31 3 []).opsnap.len.toNat ≤ 32 ∧ 0 < 255 ∧ 254 < 255 :=
  ⟨crcAt_fresh _ _ rfl, crcAt_fresh _ _ rfl, by decide⟩

theorem witness_TagFailuresEndTheSession :
    let s := posAt 0x40046 selectedQ .readTrx .poll .noresp
    isTagCommand (.read .ntag 4) = true ∧ s.pcSeq = .at .readTrx .poll ∧ s.phase = .exec ∧
    (∃ t, exec (.read .ntag 4) s = .next t ∧ t.phase = .idle) ∧
    (freshAt 0x40146 idleQ).pcSeq = .start ∧ (freshAt 0x40146 idleQ).phase = .exec ∧
    ∃ t, exec (.read .classic 4) (freshAt 0x40146 idleQ) = .next t ∧ t.phase = .idle :=
  ⟨rfl, rfl, rfl, ⟨_, rfl, rfl⟩, rfl, rfl, _, rfl, rfl⟩

/-- SCAN just accepted meets the invariant. -/
theorem freshScan_inv : Inv (freshAt 0x43 idleQ) :=
  ⟨by decide, by decide, by decide, by decide, by decide⟩

/-- STOPCRYPTO with its ACK in hand meets the invariant. -/
def offAnswered : State := { offNext with feReq := none, feAns := some .ack }
theorem offAnswered_inv : Inv offAnswered :=
  ⟨by decide, by decide, by decide, by decide, by decide⟩

theorem witness_EveryStepKeepsTheInvariant :
    Inv (freshAt 0x43 idleQ) ∧ ∃ t, step (freshAt 0x43 idleQ) = .next t :=
  ⟨freshScan_inv, _, rfl⟩

theorem witness_NoStepFaults :
    Inv { freshAt 0x43 idleQ with env := [.hostRead 2 4] } ∧
    step { freshAt 0x43 idleQ with env := [.hostRead 2 4] } = .refused .hostAccess :=
  ⟨⟨by decide, by decide, by decide, by decide, by decide⟩, rfl⟩

theorem witness_EveryCommandFinishes :
    (∀ r : FeReq, r.accepts .busfail = true) ∧ Inv (freshAt 0x43 idleQ) ∧
    (freshAt 0x43 idleQ).phase = .exec ∧ (freshAt 0x43 idleQ).feDiscard = false :=
  ⟨fun r => by cases r <;> rfl, freshScan_inv, rfl, rfl⟩

theorem witness_OnlyStopCryptoReleasesTheLock :
    Inv offAnswered ∧ offAnswered.regs.seq.cryptoHeld = true ∧
    ∃ t, step offAnswered = .next t ∧ t.regs.seq.cryptoHeld = false :=
  ⟨offAnswered_inv, rfl, _, rfl, rfl⟩

theorem witness_StoredNumbersAndTextsReadBack :
    -2147483648 ≤ (-2147483648 : Int) ∧ (-2147483648 : Int) < 2147483648 ∧
    (∀ b ∈ [0x48#8, 0x65#8], b ≠ 0) ∧ [0x48#8, 0x65#8].length < 3 ∧
    2 ≤ [0x48#8, 0x65#8].length ∧ HostConv.HostParams.default.numberSlot = none ∧
    { HostConv.HostParams.default with numberSlot := some 255 }.numberSlot = some 255 := by decide

end Sys2Proof.Tests
end

/-! PROOFS about the register window (10_state.md): the operand lock of R57, the stored widths of
R36, R39 and R44, and the two resets of R59, R60, R235 and R236. -/

namespace Sys2Proof.Machine

open Sys2Proof.Safety

/-! ### Writes by the column of the register map (R57) -/

/-- The write of an operand register goes through the lock of R57, whatever it stores. -/
theorem writeReg_of_isOperand {r : Reg} (h : isOperand r = true) (v : Word) (s : State) :
    ∃ f, s.writeReg v r = s.operandWrite f := by
  cases r with
  | bme | rawT | rawP | rawH | ms | d1 | d2 | len | authUid | keyLo | keyHi | dbuf =>
    exact ⟨_, by rw [State.writeReg]⟩
  | _ => cases h

theorem writeReg_of_isReadOnly {r : Reg} (h : isReadOnly r = true) (v : Word) (s : State) :
    s.writeReg v r = s := by
  cases r with
  | bme | rawT | rawP | rawH | ms | d1 | d2 | len | authUid | keyLo | keyHi | dbuf => cases h
  | ctrl | cmd | status | irq => cases h
  | _ => rfl

theorem hostWrite_isOperand_busy {off : Nat} {r : Reg} {s : State}
    (hoff : Reg.ofOffset off = some r) (hr : isOperand r = true) (hp : s.phase = .exec) (v : Word) :
    hostWrite off 4 v s = .next { s with wbusy := true } := by
  obtain ⟨f, hf⟩ := writeReg_of_isOperand hr v s
  rw [hostWrite_mapped hoff, hf, operandWrite_busy hp]

/-- An idle write stores what the register's row of `State.writeReg` says, and nothing else. -/
theorem hostWrite_idle {off : Nat} {r : Reg} {s : State} {v : Word} {f : Regs → Regs}
    (hoff : Reg.ofOffset off = some r) (hf : s.writeReg v r = s.operandWrite f)
    (hp : s.phase = .idle) : hostWrite off 4 v s = .next { s with regs := f s.regs } := by
  rw [hostWrite_mapped hoff, hf, operandWrite_idle hp]

/-- Settles O10: operand registers are written through the lock, and read-only ones not at all. -/
theorem operandWritesAreLockedWhileBusy : Obligations.OperandWritesAreLockedWhileBusy := by
  intro s v off r hoff
  refine ⟨fun hr hp => hostWrite_isOperand_busy hoff hr hp v, fun hr hp => ?_, fun hr => ?_⟩
  · obtain ⟨f, hf⟩ := writeReg_of_isOperand hr v s
    exact ⟨_, hostWrite_idle hoff hf hp, rfl⟩
  · rw [hostWrite_mapped hoff, writeReg_of_isReadOnly hr]

/-! ### Shadow coefficient registers (R35, R36, R42) -/

theorem BmeCoef.index_lt (k : BmeCoef) : k.index < 19 := by cases k <;> decide

/-- After a write to shadow `k`, `k` reads as the low bits of its width with its sign, and every
other shadow as before (R36). -/
theorem BmeShadow.read_write (b : BmeShadow) (v : Word) (k j : BmeCoef) :
    (b.write v k).read j =
      if j = k then
        (if coefSigned k then (v.setWidth (coefWidth k)).signExtend 32
         else (v.setWidth (coefWidth k)).setWidth 32)
      else b.read j := by
  cases k <;> cases j <;> rfl

/-- The MS5637 shadows likewise (R42). -/
theorem MsCal.get_set (m : MsCal) (x : BitVec 16) (i j : Fin 7) :
    (m.set i x).get j = if j = i then x else m.get j := by
  fin_cases i <;> fin_cases j <;> rfl

/-- Setting mask bit `i` sets that bit and no other (R36). -/
theorem getLsbD_maskWith {n i : Nat} (m : BitVec n) (hi : i < n) (j : Nat) :
    (maskWith m i).getLsbD j = (m.getLsbD j || j == i) := by
  simp [maskWith, hi, Bool.beq_eq_decide_eq, eq_comm]

theorem window_bme (s : State) (k : BmeCoef) :
    s.window (0x040 + 4 * k.index) = s.regs.ops.bmeShadow.read k :=
  window_mapped (ofOffset_bme k) s

theorem window_ms (s : State) (i : Fin 7) :
    s.window (0x0C0 + 4 * i.val) = (s.regs.ops.msShadow.get i).setWidth 32 :=
  window_mapped (ofOffset_ms i) s

theorem hostWrite_bme_idle {s : State} (h : s.phase = .idle) (k : BmeCoef) (v : Word) :
    hostWrite (0x040 + 4 * k.index) 4 v s = .next { s with regs := s.regs.writeBme k v } :=
  hostWrite_idle (f := fun r => r.writeBme k v) (ofOffset_bme k) rfl h

theorem hostWrite_ms_idle {s : State} (h : s.phase = .idle) (i : Fin 7) (v : Word) :
    hostWrite (0x0C0 + 4 * i.val) 4 v s = .next { s with regs := s.regs.writeMs i v } :=
  hostWrite_idle (f := fun r => r.writeMs i v) (ofOffset_ms i) rfl h

/-- Settles O13: each shadow's write is one field of the set and one mask bit, and its read is that
field's. -/
theorem shadowWritesReadBack : Obligations.ShadowWritesReadBack := by
  refine ⟨fun s k v h => ?bme, fun s i v h => ?ms, fun s => ?offsets, fun s k i v h => ?busy⟩
  case bme =>
    refine ⟨_, hostWrite_bme_idle h k v, rfl, ?_, fun j hj => ?_, ?_, rfl, rfl⟩
    · exact (window_bme _ k).trans ((BmeShadow.read_write _ v k k).trans (if_pos rfl))
    · calc
        _ = (s.regs.ops.bmeShadow.write v k).read j := window_bme _ j
        _ = s.regs.ops.bmeShadow.read j := (BmeShadow.read_write _ v k j).trans (if_neg hj)
        _ = s.window (0x040 + 4 * j.index) := (window_bme s j).symm
    · exact getLsbD_maskWith _ k.index_lt
  case ms =>
    refine ⟨_, hostWrite_ms_idle h i v, rfl, ?_, fun j hj => ?_, ?_, rfl⟩
    · exact (window_ms _ i).trans (congrArg _ ((MsCal.get_set _ _ i i).trans (if_pos rfl)))
    · calc
        _ = ((s.regs.ops.msShadow.set i (v.setWidth 16)).get j).setWidth 32 := window_ms _ j
        _ = (s.regs.ops.msShadow.get j).setWidth 32 :=
          congrArg _ ((MsCal.get_set _ _ i j).trans (if_neg hj))
        _ = s.window (0x0C0 + 4 * j.val) := (window_ms s j).symm
    · exact getLsbD_maskWith _ i.isLt
  case offsets =>
    exact ⟨window_bme s .t1, window_bme s .t2, window_bme s .t3, window_bme s .p1,
      window_bme s .p2, window_bme s .p3, window_bme s .p4, window_bme s .p5, window_bme s .p6,
      window_bme s .p7, window_bme s .p8, window_bme s .p9, window_bme s .h1, window_bme s .h2,
      window_bme s .h3, window_bme s .hpk0, window_bme s .hpk1, window_bme s .hpk2,
      window_bme s .h6, window_ms s 0, window_ms s 1, window_ms s 2, window_ms s 3,
      window_ms s 4, window_ms s 5, window_ms s 6⟩
  case busy =>
    exact ⟨hostWrite_isOperand_busy (ofOffset_bme k) rfl h v,
      hostWrite_isOperand_busy (ofOffset_ms i) rfl h v⟩

/-! ### Power-on (R59, R235) -/

/-- Every register but ID reads 0 after power-on (R235). -/
theorem readReg_reset {r : Reg} (h : r ≠ .id) : State.reset.readReg r = 0 := by
  cases r with
  | id => exact absurd rfl h
  | bme k => cases k <;> rfl
  | ms i => fin_cases i <;> rfl
  | dbuf w => revert w; decide
  | uidW w => revert w; decide
  | clW0 l => revert l; decide
  | clW1 l => revert l; decide
  | _ => rfl

/-- ID is the register at offset 0 and no other (R22). -/
theorem eq_id_iff_of_ofOffset {off : Nat} {r : Reg} (h : Reg.ofOffset off = some r) :
    r = .id ↔ off = 0 := by
  have hall : ∀ e ∈ regMap, e.2 = .id ↔ e.1 = 0 := by decide
  exact hall _ (mem_regMap_of_ofOffset h)

/-- What a host reads after power-on, at mapped and reserved offsets alike (R58, R59). -/
theorem window_reset (off : Nat) : State.reset.window off = if off = 0 then idWord else 0 := by
  by_cases h0 : off = 0
  · subst h0; rfl
  · rw [if_neg h0]
    cases hr : Reg.ofOffset off with
    | none => simp only [State.window, hr]
    | some r =>
      rw [window_mapped hr]
      exact readReg_reset fun hid => h0 ((eq_id_iff_of_ofOffset hr).mp hid)

/-- The power-on move resets the block from any state (R234, R235). -/
theorem step_powerOn {s : State} {rest : List Event} (h : s.env = .powerOn :: rest) :
    step s = .next ({ s with env := rest } : State).powerOnReset := by
  simp only [step, h, act]

/-- Settles O17: the read values follow from the reset value of each register, the hidden items
stand in the reset state. -/
theorem powerOnResetValues : Obligations.PowerOnResetValues :=
  ⟨window_reset, rfl, rfl, rfl, rfl, rfl, rfl, rfl, rfl, rfl, rfl, rfl, rfl,
    fun _ _ h => step_powerOn h⟩

/-! ### Raw samples, LEN, AUTH_UID and the keys (R39, R44, R46, R49, R50) -/

theorem hostWrite_setOps_idle {off : Nat} {r : Reg} {s : State} {v : Word}
    (g : Operands → Operands) (hoff : Reg.ofOffset off = some r)
    (hf : s.writeReg v r = s.operandWrite fun w => w.setOps (g w.ops)) (hp : s.phase = .idle) :
    hostWrite off 4 v s = .next { s with regs := { s.regs with ops := g s.regs.ops } } :=
  hostWrite_idle hoff hf hp

/-- Settles O14: the nine registers are operand registers off offset 0, which gives their reset
values and their lock; while idle each stores its width. -/
theorem rawWritesStoreTheirWidths : Obligations.RawWritesStoreTheirWidths := by
  refine ⟨rfl, rfl, fun off hoff => ?reset_and_lock, fun s v => ?read_and_store⟩
  case reset_and_lock =>
    have hall : ∀ o ∈ [0x0A0, 0x0A4, 0x0A8, 0x0E0, 0x0E4, 0x100, 0x10C, 0x110, 0x114],
        o ≠ 0 ∧ (Reg.ofOffset o).any isOperand = true := by decide
    obtain ⟨h0, hop⟩ := hall off hoff
    obtain ⟨r, hr, hrop⟩ := (Option.any_eq_true _ _).mp hop
    exact ⟨(window_reset off).trans (if_neg h0),
      fun s v hp => hostWrite_isOperand_busy hr hrop hp v⟩
  case read_and_store =>
    refine ⟨window_mapped (r := .rawT) rfl s, window_mapped (r := .rawP) rfl s,
      window_mapped (r := .rawH) rfl s, window_mapped (r := .d1) rfl s,
      window_mapped (r := .d2) rfl s, fun h => ?_⟩
    exact ⟨hostWrite_idle (r := .rawT) (f := (·.writeRawT v)) rfl rfl h,
      hostWrite_setOps_idle (r := .rawP) (fun o => { o with rawP := v.setWidth 20 }) rfl rfl h,
      hostWrite_setOps_idle (r := .rawH) (fun o => { o with rawH := v.setWidth 16 }) rfl rfl h,
      hostWrite_setOps_idle (r := .d1) (fun o => { o with d1 := v.setWidth 24 }) rfl rfl h,
      hostWrite_setOps_idle (r := .d2) (fun o => { o with d2 := v.setWidth 24 }) rfl rfl h,
      hostWrite_setOps_idle (r := .len) (fun o => { o with len := v.setWidth 6 }) rfl rfl h,
      hostWrite_setOps_idle (r := .authUid) (fun o => { o with authUid := v }) rfl rfl h,
      hostWrite_setOps_idle (r := .keyLo) (fun o => { o with keyLo := v }) rfl rfl h,
      hostWrite_setOps_idle (r := .keyHi) (fun o => { o with keyHi := v.setWidth 16 }) rfl rfl h⟩

/-! ### Soft reset (R60, R236) -/

theorem writeCtrl_of_bit {v : Word} (h : v.getLsbD 0 = true) (s : State) :
    s.writeCtrl v = s.softReset := if_pos h

theorem writeCtrl_of_no_bit {v : Word} (h : v.getLsbD 0 = false) (s : State) :
    s.writeCtrl v = s := by
  simp only [State.writeCtrl, h, Bool.false_eq_true, if_false]

/-- Settles O18: a CTRL write is the soft reset by its bit 0, in either phase, for no lock guards
CTRL. -/
theorem softResetKeepsCryptoHeld : Obligations.SoftResetKeepsCryptoHeld := by
  intro s v
  have hw : hostWrite 0x004 4 v s = .next (s.writeCtrl v) := hostWrite_mapped (r := .ctrl) rfl v s
  exact ⟨fun h => hw.trans (congrArg _ (writeCtrl_of_bit h s)),
    fun h => hw.trans (congrArg _ (writeCtrl_of_no_bit h s))⟩

end Sys2Proof.Machine

/-! PROOFS about the command encoding (30_encoding.md): the tables of R97 to R100, the order of the
legality checks of R101, the totality of R103 and the accept of an illegal word of R102. -/

namespace Sys2Proof

open Sys2Proof.Machine Sys2Proof.Laws.WordFields

/-! ### The opcode table (R99, R100) -/

@[simp] theorem Op.ofCode_code (o : Op) : Op.ofCode o.code = some o := by cases o <;> rfl

theorem Op.mem_all (o : Op) : o ∈ Op.all := by cases o <;> decide

/-- An opcode is found at its own code and at no other byte. -/
theorem Op.ofCode_eq_some_iff {b : Byte} {o : Op} : Op.ofCode b = some o ↔ o.code = b := by
  constructor
  · intro h
    exact eq_of_beq (List.find?_some (p := fun o : Op => o.code == b) h)
  · rintro rfl
    exact Op.ofCode_code o

/-- A byte at which nothing is found is the code of no opcode. -/
theorem Op.ofCode_eq_none_iff {b : Byte} : Op.ofCode b = none ↔ ∀ o : Op, o.code ≠ b := by
  simp only [Op.ofCode, List.find?_eq_none, beq_iff_eq]
  exact ⟨fun h o => h o o.mem_all, fun h o _ => h o⟩

/-! ### Operand fields (R96 to R98) -/

/-- A one-bit field in the low bit of F has two values (R97). -/
theorem eq_zero_or_one_of_reserved {f : Byte} (h : f &&& ~~~(0x01#8) = 0) : f = 0 ∨ f = 1 := by
  revert f; decide

theorem ReqMode.toF_ofF {f : Byte} (h : f &&& ~~~(0x01#8) = 0) : (ReqMode.ofF f).toF = f := by
  rcases eq_zero_or_one_of_reserved h with rfl | rfl <;> rfl

theorem KeyType.toF_ofF {f : Byte} (h : f &&& ~~~(0x01#8) = 0) : (KeyType.ofF f).toF = f := by
  rcases eq_zero_or_one_of_reserved h with rfl | rfl <;> rfl

theorem CardKind.toF_ofF {f : Byte} (h : f &&& ~~~(0x01#8) = 0) : (CardKind.ofF f).toF = f := by
  rcases eq_zero_or_one_of_reserved h with rfl | rfl <;> rfl

/-- The level field holds the whole of F when F has no bit outside it (R97). -/
theorem level_of_reserved {f : Byte} (h : f &&& ~~~(0x03#8) = 0) :
    (f.extractLsb' 0 2).setWidth 8 = f := by
  revert f; decide

theorem eq_zero_of_reserved {f : Byte} (h : f &&& ~~~(0x00#8) = 0) : 0 = f :=
  h.symm.trans BitVec.and_allOnes

@[simp] theorem Op.op_build (o : Op) (f a : Byte) : (o.build f a).op = o := by cases o <;> rfl

/-- A command built from an F byte with no undefined bit has that F byte (R97). -/
theorem Op.f_build {o : Op} {f : Byte} (h : f &&& ~~~o.fBits = 0) (a : Byte) :
    (o.build f a).f = f := by
  cases o with
  | request | scan => exact ReqMode.toF_ofF h
  | auth => exact KeyType.toF_ofF h
  | read => exact CardKind.toF_ofF h
  | anticoll | select => exact level_of_reserved h
  | _ => exact eq_zero_of_reserved h

/-- A command built from an A byte that is used or 0 has that A byte (R96, R98). -/
theorem Op.addr_build {o : Op} {a : Byte} (h : o.hasAddr = true ∨ a = 0) (f : Byte) :
    (o.build f a).addr = a := by
  cases o with
  | auth | read | writeClassic | writeNtag => rfl
  | _ => exact (h.resolve_left Bool.false_ne_true).symm

@[simp] theorem ReqMode.ofF_toF (m : ReqMode) : ReqMode.ofF m.toF = m := by cases m <;> rfl

@[simp] theorem KeyType.ofF_toF (k : KeyType) : KeyType.ofF k.toF = k := by cases k <;> rfl

@[simp] theorem CardKind.ofF_toF (c : CardKind) : CardKind.ofF c.toF = c := by cases c <;> rfl

theorem extractLsb'_setWidth_level (l : BitVec 2) : (l.setWidth 8).extractLsb' 0 2 = l := by
  revert l; decide

/-- A command is built from its own opcode and operand bytes. -/
@[simp] theorem Instr.build_op (i : Instr) : i.op.build i.f i.addr = i := by
  cases i with
  | request m => exact congrArg Instr.request m.ofF_toF
  | scan m => exact congrArg Instr.scan m.ofF_toF
  | auth k a => exact congrArg (Instr.auth · a) k.ofF_toF
  | read c a => exact congrArg (Instr.read · a) c.ofF_toF
  | anticoll l => exact congrArg Instr.anticoll (extractLsb'_setWidth_level l)
  | select l => exact congrArg Instr.select (extractLsb'_setWidth_level l)
  | _ => rfl

/-- The ill-formed terms are ANTICOLL and SELECT with L = 0 (R101 step 3). -/
theorem Instr.wf_eq_false_iff (i : Instr) :
    i.wf = false ↔ i = .anticoll 0 ∨ i = .select 0 := by
  cases i <;> simp [Instr.wf]

/-! ### The word and its fields (R96) -/

/-- A word is its four fields. -/
theorem append_wordFields (w : Word) : (wordRsv w ++ wordA w) ++ (wordF w ++ wordOp w) = w := by
  apply BitVec.eq_of_getLsbD_eq
  intro n hn
  simp only [wordRsv, wordA, wordF, wordOp, BitVec.getLsbD_append, BitVec.getLsbD_extractLsb']
  interval_cases n <;> simp

theorem reservedClear_iff {o : Op} {w : Word} :
    reservedClear o w = true ↔
      wordRsv w = 0 ∧ wordF w &&& ~~~o.fBits = 0 ∧ (o.hasAddr = true ∨ wordA w = 0) := by
  simp [reservedClear, and_assoc]

theorem reservedClear_eq_false_iff {o : Op} {w : Word} :
    reservedClear o w = false ↔
      wordRsv w ≠ 0 ∨ wordF w &&& ~~~o.fBits ≠ 0 ∨ (o.hasAddr = false ∧ wordA w ≠ 0) := by
  rw [← Bool.not_eq_true, reservedClear_iff, not_and_or, not_and_or, not_or, Bool.not_eq_true]

/-- A word that passes the checks of R101 steps 1 and 2 is the word of the command built from it,
whether or not that command passes step 3. -/
theorem encode_build {o : Op} {w : Word} (ho : o.code = wordOp w) (hr : reservedClear o w = true) :
    encode (o.build (wordF w) (wordA w)) = w := by
  obtain ⟨hrsv, hf, ha⟩ := reservedClear_iff.mp hr
  calc encode (o.build (wordF w) (wordA w))
      = (0#8 ++ wordA w) ++ (wordF w ++ o.code) := by
        rw [encode, Op.op_build, Op.f_build hf, Op.addr_build ha]
    _ = (wordRsv w ++ wordA w) ++ (wordF w ++ wordOp w) := by rw [ho, hrsv]; rfl
    _ = w := append_wordFields w

/-- The word of every term passes the check of R101 step 2. -/
theorem reservedClear_encode (i : Instr) : reservedClear i.op (encode i) = true := by
  have h : Statement i := by
    cases i with
    | request m => exact request m
    | anticoll l => exact anticoll l
    | select l => exact select l
    | scan m => exact scan m
    | auth k a => exact auth k a
    | read c a => exact read c a
    | writeClassic a => exact writeClassic a
    | writeNtag a => exact writeNtag a
    | _ => exact of_fields _ rfl (.inr rfl)
  obtain ⟨-, -, -, -, hclear⟩ := h
  exact hclear

/-! ### The decoder (R101) -/

theorem decode_of_unknown {w : Word} (h : ∀ o : Op, o.code ≠ wordOp w) :
    decode w = .error .unknownOpcode := by
  simp only [decode, Op.ofCode_eq_none_iff.mpr h]

theorem decode_of_code {w : Word} {o : Op} (h : o.code = wordOp w) :
    decode w =
      if reservedClear o w then
        if (o.build (wordF w) (wordA w)).wf then .ok (o.build (wordF w) (wordA w))
        else .error .badField
      else .error .reservedBits := by
  simp only [decode, Op.ofCode_eq_some_iff.mpr h]

theorem decode_of_reserved {w : Word} {o : Op} (ho : o.code = wordOp w)
    (hr : reservedClear o w = false) : decode w = .error .reservedBits := by
  rw [decode_of_code ho, hr]; rfl

/-- Past the first two checks, the word's term decides: it is the command if well formed, and
otherwise the field is bad. -/
theorem decode_encode_eq (i : Instr) :
    decode (encode i) = if i.wf then .ok i else .error .badField := by
  rw [decode_of_code (wordOp_encode i).symm, reservedClear_encode, if_pos rfl, wordF_encode,
    wordA_encode, Instr.build_op]

theorem decode_encode {i : Instr} (h : i.wf = true) : decode (encode i) = .ok i := by
  rw [decode_encode_eq, if_pos h]

theorem decode_encode_of_not_wf {i : Instr} (h : i.wf = false) :
    decode (encode i) = .error .badField := by
  rw [decode_encode_eq, h]; rfl

/-- The three ways the checks of a word can end before its operand values count (R101): it has no
opcode, it has reserved bits set, or it is the word of a term. -/
theorem word_cases (w : Word) :
    (∀ o : Op, o.code ≠ wordOp w) ∨ (∃ o : Op, o.code = wordOp w ∧ reservedClear o w = false) ∨
    ∃ i, encode i = w := by
  by_cases hop : ∃ o : Op, o.code = wordOp w
  · obtain ⟨o, ho⟩ := hop
    cases hr : reservedClear o w with
    | false => exact .inr (.inl ⟨o, ho, hr⟩)
    | true => exact .inr (.inr ⟨_, encode_build ho hr⟩)
  · exact .inl (not_exists.mp hop)

/-- What each answer of the decoder says of the word. -/
def DecodeMeaning (w : Word) : Except Verdict Instr → Prop
  | .ok i => i.wf = true ∧ encode i = w
  | .error .unknownOpcode => ∀ o : Op, o.code ≠ wordOp w
  | .error .reservedBits => ∃ o : Op, o.code = wordOp w ∧ reservedClear o w = false
  | .error .badField => ∃ i : Instr, i.wf = false ∧ encode i = w

theorem decodeMeaning_decode (w : Word) : DecodeMeaning w (decode w) := by
  rcases word_cases w with hop | ⟨o, ho, hr⟩ | ⟨i, rfl⟩
  · rw [decode_of_unknown hop]; exact hop
  · rw [decode_of_reserved ho hr]; exact ⟨o, ho, hr⟩
  · cases hwf : i.wf with
    | true => rw [decode_encode hwf]; exact ⟨hwf, rfl⟩
    | false => rw [decode_encode_of_not_wf hwf]; exact ⟨i, hwf, rfl⟩

/-- The decoder's answer is the one whose meaning the word has (R101, R103). -/
theorem decode_eq_iff {w : Word} {r : Except Verdict Instr} :
    decode w = r ↔ DecodeMeaning w r := by
  constructor
  · rintro rfl
    exact decodeMeaning_decode w
  · intro h
    match r, h with
    | .ok i, ⟨hwf, henc⟩ => exact henc ▸ decode_encode hwf
    | .error .unknownOpcode, hop => exact decode_of_unknown hop
    | .error .reservedBits, ⟨o, ho, hr⟩ => exact decode_of_reserved ho hr
    | .error .badField, ⟨i, hwf, henc⟩ => exact henc ▸ decode_encode_of_not_wf hwf

theorem decode_eq_ok_iff {w : Word} {i : Instr} :
    decode w = .ok i ↔ i.wf = true ∧ encode i = w := decode_eq_iff

/-- The words of ANTICOLL and SELECT with L = 0 (R101 step 3). -/
theorem exists_not_wf_encode_iff {w : Word} :
    (∃ i : Instr, i.wf = false ∧ encode i = w) ↔ w = 0x00000041 ∨ w = 0x00000042 := by
  simp only [Instr.wf_eq_false_iff]
  constructor
  · rintro ⟨i, rfl | rfl, rfl⟩
    · exact .inl rfl
    · exact .inr rfl
  · rintro (rfl | rfl)
    · exact ⟨.anticoll 0, .inl rfl, rfl⟩
    · exact ⟨.select 0, .inr rfl, rfl⟩

/-- Settles O2: the decoder answers a command exactly at its word, so its answer is the one
command, and an illegal verdict leaves none. -/
theorem everyWordIsACommandOrIllegal : Obligations.EveryWordIsACommandOrIllegal := by
  intro w
  cases hd : decode w with
  | ok i =>
    obtain ⟨hwf, henc⟩ := decode_eq_ok_iff.mp hd
    refine .inl ⟨i, hwf, rfl, henc, fun j hj he => ?_⟩
    have hdj : decode w = .ok j := decode_eq_ok_iff.mpr ⟨hj, he⟩
    exact Except.ok.inj (hdj.symm.trans hd)
  | error v =>
    refine .inr ⟨v, rfl, fun j hj he => ?_⟩
    have hdj : decode w = .ok j := decode_eq_ok_iff.mpr ⟨hj, he⟩
    cases hd.symm.trans hdj

/-! ### Running an illegal word (R101, R102) -/

theorem runWord_illegal {w : Word} {v : Verdict} (h : decode w = .error v) (s : State) :
    runWord w s = .next (s.finish s.regs .error .command (verdictCause v)) := by
  simp only [runWord, h, illegal_eq]

/-- Settles O3: a word fails at a check exactly when it passes those before it and not this one,
and only the words of ANTICOLL and SELECT with L = 0 fail at the last. -/
theorem legalityChecksInOrder : Obligations.LegalityChecksInOrder := by
  refine ⟨rfl, rfl, rfl, fun w => ⟨fun s v h => runWord_illegal h s, fun h => ?_,
    decode_eq_iff, ?_, decode_eq_iff.trans exists_not_wf_encode_iff⟩⟩
  · cases hd : decode w with
    | error v => exact absurd hd (h v)
    | ok i =>
      obtain ⟨-, rfl⟩ := decode_eq_ok_iff.mp hd
      exact ⟨i, rfl, (wordOp_encode i).symm⟩
  · simp only [decode_eq_iff, DecodeMeaning, reservedClear_eq_false_iff]

/-- Settles O4: each legal example is the word of its command, and each illegal one meets the
condition of its verdict. -/
theorem exampleWordsDecodeAsListed : Obligations.ExampleWordsDecodeAsListed :=
  ⟨decode_encode (i := .nop) rfl, decode_encode (i := .bmeAll) rfl,
    decode_encode (i := .msComp) rfl, decode_encode (i := .request .wupA) rfl,
    decode_encode (i := .anticoll 2) rfl, decode_encode (i := .select 3) rfl,
    decode_encode (i := .scan .reqA) rfl, decode_encode (i := .auth .keyB 0x07) rfl,
    decode_encode (i := .read .classic 4) rfl, decode_encode (i := .read .ntag 4) rfl,
    decode_encode (i := .writeClassic 8) rfl, decode_encode (i := .writeNtag 0x27) rfl,
    decode_encode (i := .stopCrypto) rfl, decode_encode_of_not_wf (i := .anticoll 0) rfl,
    decode_of_reserved (o := .bmeT) rfl rfl,
    decode_of_unknown fun o => by cases o <;> decide⟩

theorem engineStep_illegal {s : State} {v : Verdict} (hp : s.phase = .exec)
    (hw : s.feWait = false) (hr : s.feReq = none) (hd : decode s.cur = .error v) :
    engineStep s = .next (s.finish s.regs .error .command (verdictCause v)) := by
  have hen : s.engineEnabled = true := by simp [State.engineEnabled, hp, hw]
  simp only [engineStep, hen, if_true, hr, runWord_illegal hd]

theorem writeCmd_idle {s : State} (h : s.phase = .idle) (w : Word) : s.writeCmd w = s.accept w := by
  rcases writeCmd_cases s w with ⟨hbusy, -⟩ | ⟨-, hw⟩
  · simp [State.busy, h] at hbusy
  · exact hw

/-- Settles O5: the accept of an idle block does not look at the word, and the engine's first turn
finds the verdict. -/
theorem illegalWordIsAcceptedAndReported : Obligations.IllegalWordIsAcceptedAndReported := by
  intro s w v hp hw hr hd
  have haccept : hostWrite 0x008 4 w s = .next (s.accept w) :=
    (hostWrite_mapped (r := .cmd) rfl w s).trans (congrArg _ (writeCmd_idle hp w))
  exact ⟨haccept, rfl, rfl, rfl, window_mapped (r := .cmd) rfl (s.accept w),
    engineStep_illegal (s := s.accept w) rfl hw hr hd⟩

end Sys2Proof

/-! PROOFS about the write of a command word (40_common.md R117, R118). -/

namespace Sys2Proof.Machine

theorem writeCmd_busy {s : State} (h : s.phase = .exec) (w : Word) :
    s.writeCmd w = s.overrunCmd := by
  rcases writeCmd_cases s w with ⟨-, hw⟩ | ⟨hidle, -⟩
  · exact hw
  · simp [State.busy, h] at hidle

/-- Offset 0x008 is CMD's, and no operand lock guards it (R21, R57). -/
theorem hostWrite_cmd (w : Word) (s : State) : hostWrite 0x008 4 w s = .next (s.writeCmd w) :=
  hostWrite_mapped (r := .cmd) rfl w s

/-- Settles O9: the phase decides the write; after an accept the engine's first turn finds the
verdict of `w` or computes on the command it decodes to. -/
theorem cmdWriteAcceptsOrOverruns : Obligations.CmdWriteAcceptsOrOverruns := by
  intro s w
  constructor
  · intro hidle
    have haccept : hostWrite 0x008 4 w s = .next (s.accept w) :=
      (hostWrite_cmd w s).trans (congrArg _ (writeCmd_idle hidle w))
    have hreadback : (s.accept w).window 0x008 = w := window_mapped (r := .cmd) rfl (s.accept w)
    refine ⟨s.accept w, haccept, rfl, rfl, hreadback, rfl, fun hw hr => ?_⟩
    cases hd : decode w with
    | ok i => exact engineStep_runs (s := s.accept w) rfl hw hr hd
    | error v => exact engineStep_illegal (s := s.accept w) rfl hw hr hd
  · intro hexec
    exact (hostWrite_cmd w s).trans (congrArg _ (writeCmd_busy hexec w))

end Sys2Proof.Machine

/-! PROOFS about the BME280 compensation chains (41_bme280.md R134, R136, R139, R141): each chain,
term by term, in floor divisions, and the range that the humidity clamp gives. -/

namespace Sys2Proof.Machine

/-! ### Temperature (R134) -/

theorem bmeTemp_eq_fdiv (adcT t1 t2 t3 : Int) :
    bmeTemp adcT t1 t2 t3 =
      (let var1 := Int.fdiv ((Int.fdiv adcT 8 - t1 * 2) * t2) 2048
       let var2 := Int.fdiv
         (Int.fdiv ((Int.fdiv adcT 16 - t1) * (Int.fdiv adcT 16 - t1)) 4096 * t3) 16384
       (Int.fdiv ((var1 + var2) * 5 + 128) 256, var1 + var2)) := by
  simp only [bmeTemp, shr_eq_fdiv, shl_eq_mul, Int.reducePow]

/-! ### Pressure (R136) -/

theorem bmePressDivisor_eq_fdiv (tFine : Int) (c : PressCoef) :
    bmePressDivisor tFine c =
      (let v := Int.fdiv tFine 2 - 64000
       let q := Int.fdiv v 4 * Int.fdiv v 4
       let v3 := Int.fdiv (c.p3 * Int.fdiv q 8192) 8
       let v4 := Int.fdiv (c.p2 * v) 2
       Int.fdiv ((32768 + Int.fdiv (v3 + v4) 262144) * c.p1) 32768) := by
  simp only [bmePressDivisor, shr_eq_fdiv, Int.reducePow]

theorem bmePressOffset_eq_fdiv (tFine : Int) (c : PressCoef) :
    bmePressOffset tFine c =
      (let v := Int.fdiv tFine 2 - 64000
       let q := Int.fdiv v 4 * Int.fdiv v 4
       Int.fdiv (Int.fdiv q 2048 * c.p6 + v * c.p5 * 2) 4 + c.p4 * 65536) := by
  simp only [bmePressOffset, shr_eq_fdiv, shl_eq_mul, Int.reducePow]

theorem bmePressCorrect_eq_fdiv (p : Int) (c : PressCoef) :
    bmePressCorrect p c =
      (let w1 := Int.fdiv (c.p9 * Int.fdiv (Int.fdiv p 8 * Int.fdiv p 8) 8192) 4096
       let w2 := Int.fdiv (Int.fdiv p 4 * c.p8) 8192
       p + Int.fdiv (w1 + w2 + c.p7) 16) := by
  simp only [bmePressCorrect, shr_eq_fdiv, Int.reducePow]

theorem bmePress_of_guard {tFine : Int} {c : PressCoef} (h : bmePressDivisor tFine c = 0)
    (adcP : Int) : bmePress adcP tFine c = none :=
  if_pos h

/-- Past the guard: the doubling stands before the division for an unsigned 31-bit dividend, after
it for any other. -/
theorem bmePress_of_divisor_ne_zero {tFine : Int} {c : PressCoef}
    (h : bmePressDivisor tFine c ≠ 0) (adcP : Int) :
    bmePress adcP tFine c =
      (let u := bmePressDivisor tFine c
       let p := (1048576 - adcP - Int.fdiv (bmePressOffset tFine c) 4096) * 3125
       some (bmePressCorrect
         (if 0 ≤ p ∧ p < 2147483648 then Int.fdiv (p * 2) u else Int.fdiv p u * 2) c)) := by
  simp only [bmePress, if_neg h, floorDiv, shr_eq_fdiv, shl_eq_mul, Int.reducePow]

/-! ### Humidity (R139, R141) -/

theorem bmeHumRaw_eq_fdiv (adcH tFine : Int) (c : HumCoef) :
    bmeHumRaw adcH tFine c =
      (let x := tFine - 76800
       let a := Int.fdiv (adcH * 16384 - c.h4 * 1048576 - c.h5 * x + 16384) 32768
       let m := Int.fdiv (Int.fdiv (x * c.h6) 1024 * (Int.fdiv (x * c.h3) 2048 + 32768)) 1024
       let b := Int.fdiv ((m + 2097152) * c.h2 + 8192) 16384
       let y := a * b
       y - Int.fdiv (Int.fdiv (Int.fdiv y 32768 * Int.fdiv y 32768) 128 * c.h1) 16) := by
  simp only [bmeHumRaw, shr_eq_fdiv, shl_eq_mul, Int.reducePow]

/-- The two tests of the clamp are a maximum, then a minimum. -/
theorem humClamp_eq_min_max (x : Int) : humClamp x = min (max x 0) 419430400 := by
  have hlow : (if x < 0 then 0 else x) = max x 0 := by
    split <;> omega
  simp only [humClamp, hlow]
  split <;> omega

theorem humClamp_nonneg (x : Int) : 0 ≤ humClamp x := by
  rw [humClamp_eq_min_max]
  exact le_min (le_max_right x 0) (by norm_num)

theorem humClamp_le (x : Int) : humClamp x ≤ 419430400 := by
  rw [humClamp_eq_min_max]
  exact min_le_right _ _

theorem bmeHum_eq_fdiv (adcH tFine : Int) (c : HumCoef) :
    bmeHum adcH tFine c =
      Int.fdiv (min (max (bmeHumRaw adcH tFine c) 0) 419430400) 4096 := by
  simp only [bmeHum, shr_eq_fdiv, humClamp_eq_min_max, Int.reducePow]

/-- Settles O22, term by term: the pressure chain by the verdict of its guard, the humidity chain
through its clamp. -/
theorem bmeChainsAreTheFormulas : Obligations.BmeChainsAreTheFormulas := by
  refine ⟨bmeTemp_eq_fdiv, fun adcP tFine c => ?_, fun adcH tFine c => ?_⟩
  · by_cases hguard : bmePressDivisor tFine c = 0
    · have hu := bmePressDivisor_eq_fdiv tFine c ▸ hguard
      exact (bmePress_of_guard hguard adcP).trans (if_pos hu).symm
    · have hu := bmePressDivisor_eq_fdiv tFine c ▸ hguard
      simp only [bmePress_of_divisor_ne_zero hguard, bmePressDivisor_eq_fdiv,
        bmePressOffset_eq_fdiv, bmePressCorrect_eq_fdiv]
      exact (if_neg hu).symm
  · rw [bmeHum_eq_fdiv, bmeHumRaw_eq_fdiv]

/-- Settles O29: the last shift keeps the bounds of the clamp, and `419430400 >> 12` is 102400. -/
theorem humidityStaysInRange : Obligations.HumidityStaysInRange := fun adcH tFine c =>
  ⟨le_shr (by simpa using humClamp_nonneg (bmeHumRaw adcH tFine c)),
    shr_le ((humClamp_le (bmeHumRaw adcH tFine c)).trans_lt (by norm_num))⟩

end Sys2Proof.Machine

/-! PROOFS about the MS5637 compensation chain (42_ms5637.md R154 to R156): each part of the chain
in floor divisions, and the whole chain assembled from them. -/

namespace Sys2Proof.Machine

/-! ### First order (R154) -/

theorem msFirst_eq_fdiv (d2 : Int) (c : MsCoef) :
    msFirst d2 c =
      (let dT := d2 - c.c5 * 256
       { dT := dT
         temp := 2000 + Int.fdiv (dT * c.c6) 8388608
         off := c.c2 * 131072 + Int.fdiv (c.c4 * dT) 64
         sens := c.c1 * 65536 + Int.fdiv (c.c3 * dT) 128 }) := by
  simp only [msFirst, shr_eq_fdiv, Int.reducePow]

/-! ### Second order (R155) -/

/-- The two readings of the high range (90_conflicts.md C4) differ only from 20.00 °C upwards. -/
theorem msT2_eq_fdiv (h : Config.HighT2) (v : MsVals) :
    msT2 h v =
      if v.temp < 2000 then Int.fdiv (3 * v.dT * v.dT) 8589934592
      else if h = .datasheet then Int.fdiv (5 * v.dT * v.dT) 274877906944 else 0 := by
  cases h with
  | datasheet => simp only [msT2, shr_eq_fdiv, Int.reducePow, if_true]
  | zero => simp only [msT2, shr_eq_fdiv, Int.reducePow, reduceCtorEq, if_false]

/-- The very low range adds its term to the low range's; without it the added term is 0. -/
theorem msOff2_eq_fdiv (v : MsVals) :
    msOff2 v =
      if v.temp < 2000 then
        Int.fdiv (61 * ((v.temp - 2000) * (v.temp - 2000))) 16 +
          (if v.temp < -1500 then 17 * ((v.temp + 1500) * (v.temp + 1500)) else 0)
      else 0 := by
  simp only [msOff2, shr_eq_fdiv, sq, Int.reducePow, add_ite, add_zero]

/-- As `msOff2_eq_fdiv`, with the multipliers of the sensitivity. -/
theorem msSens2_eq_fdiv (v : MsVals) :
    msSens2 v =
      if v.temp < 2000 then
        Int.fdiv (29 * ((v.temp - 2000) * (v.temp - 2000))) 16 +
          (if v.temp < -1500 then 9 * ((v.temp + 1500) * (v.temp + 1500)) else 0)
      else 0 := by
  simp only [msSens2, shr_eq_fdiv, sq, Int.reducePow, add_ite, add_zero]

/-! ### Final pressure (R156) -/

theorem msPress_eq_fdiv (d1 : Int) (v : MsVals) :
    msPress d1 v = Int.fdiv (Int.fdiv (d1 * v.sens) 2097152 - v.off) 32768 := by
  simp only [msPress, shr_eq_fdiv, Int.reducePow]

/-- The corrections are taken at the first order values, and the pressure at the corrected ones. -/
theorem msComp_eq_corrected (h : Config.HighT2) (d1 d2 : Int) (c : MsCoef) :
    msComp h d1 d2 c =
      (let v := msFirst d2 c
       (v.temp - msT2 h v,
        Int.fdiv (Int.fdiv (d1 * (v.sens - msSens2 v)) 2097152 - (v.off - msOff2 v)) 32768)) := by
  simp only [msComp, msSecond, msPress_eq_fdiv]

/-- Settles O31: the corrections of R155 at the first order values of R154, then R156. -/
theorem msChainIsTheFormula : Obligations.MsChainIsTheFormula := by
  intro h d1 d2 c
  rw [msComp_eq_corrected]
  simp only [msT2_eq_fdiv, msOff2_eq_fdiv, msSens2_eq_fdiv, msFirst_eq_fdiv]

end Sys2Proof.Machine

/-! PROOFS about the CRC commands (43_crc16.md R167): what one block step of CRC_CALC or CRC_CHECK
leaves of the sequencer's registers and the operand registers. -/

namespace Sys2Proof.Machine

/-! ### Registers the CRC commands leave (R167) -/

/-- Two register sets with the same sequencer and operand registers. -/
structure Regs.SameSession (r w : Regs) : Prop where
  seq : w.seq = r.seq
  ops : w.ops = r.ops

theorem Regs.SameSession.refl (r : Regs) : r.SameSession r := ⟨rfl, rfl⟩

theorem Regs.SameSession.setCrcRes {r w : Regs} (h : r.SameSession w) (c : BitVec 16) :
    r.SameSession (w.setCrcRes c) := ⟨h.seq, h.ops⟩

/-- State `t` shows the session and the operands of `s`, published and in the working copies. -/
structure State.KeepsSession (s t : State) : Prop where
  regs : s.regs.SameSession t.regs
  working : s.regs.SameSession t.working

@[simp] theorem State.finish_working (s : State) (w : Regs) (r : Result) (c : ErrClass)
    (k : Cause) : (s.finish w r c k).working = w := rfl

/-- A finish publishes the copies it is given, and those are all it can change. -/
theorem State.keepsSession_finish {s : State} {w : Regs} (hw : s.regs.SameSession w) (r : Result)
    (c : ErrClass) (k : Cause) : s.KeepsSession (s.finish w r c k) :=
  ⟨by simpa using hw, by simpa using hw⟩

/-- Preparing a request publishes nothing; the poll count is no register. -/
theorem State.keepsSession_ask {s u : State} {w : Regs} (hu : u.regs = s.regs)
    (hw : s.regs.SameSession w) (x : Stage) (p : Prim) (r : FeReq) :
    s.KeepsSession (u.ask w x p r) :=
  ⟨by simpa [hu] using Regs.SameSession.refl s.regs, by simpa using hw⟩

theorem succeed_keepsSession {s t : State} {w : Regs} (hw : s.regs.SameSession w)
    (h : succeed s w = .next t) : s.KeepsSession t := by
  cases h
  exact s.keepsSession_finish hw _ _ _

theorem failWith_keepsSession {s t : State} {w : Regs} (hw : s.regs.SameSession w)
    {c : ErrClass} {k : Cause} (h : failWith s w c k = .next t) : s.KeepsSession t := by
  cases h
  exact s.keepsSession_finish hw _ _ _

theorem refuse_keepsSession {s t : State} {c : ErrClass} {k : Cause}
    (h : refuse s c k = .next t) : s.KeepsSession t :=
  failWith_keepsSession (.refl s.regs) h

theorem crcCall_keepsSession {s t : State} {x : Stage} {data : List Byte}
    (h : crcCall s s.regs x data = .next t) : s.KeepsSession t := by
  cases h
  exact State.keepsSession_ask rfl (.refl s.regs) _ _ _

/-- Inside `crc16` (R90) only the command's own continuation can change a register: its failures
publish the copies as they stand. -/
theorem crcStep_keepsSession {s t : State} {w : Regs} {x : Stage} {p : Prim} {a : FeAns}
    {ret : BitVec 16 → Out} (hw : s.regs.SameSession w)
    (hret : ∀ c, ret c = .next t → s.KeepsSession t)
    (h : crcStep s w x p a (failWith s w) ret = .next t) : s.KeepsSession t := by
  obtain ⟨-, h⟩ | ⟨-, -, rfl⟩ | ⟨-, -, rfl⟩ | ⟨-, -, -, h⟩ | ⟨-, -, -, rfl⟩ | ⟨lo, hi, -, -, h⟩ :=
    crcStep_cases h
  · exact failWith_keepsSession hw h
  · exact State.keepsSession_ask (State.setPoll_regs s _) hw _ _ _
  · exact State.keepsSession_ask rfl hw _ _ _
  · exact failWith_keepsSession hw h
  · exact State.keepsSession_ask (State.setPoll_regs s _) hw _ _ _
  · exact hret _ h

/-! ### CRC_CALC and CRC_CHECK (R164, R166) -/

theorem execCrcCalc_keepsSession {s t : State} (hw : s.regs.SameSession s.working)
    (h : execCrcCalc s = .next t) : s.KeepsSession t := by
  obtain ⟨-, h⟩ | ⟨x, p, a, -, -, h⟩ := resume_cases h
  · split at h
    · exact refuse_keepsSession h
    · exact crcCall_keepsSession h
  · cases x with
    | crc => exact crcStep_keepsSession hw (fun c => succeed_keepsSession (hw.setCrcRes c)) h
    | _ => cases h

/-- Both verdicts of the compare publish the computed CRC and nothing more (R166). -/
theorem execCrcCheck_keepsSession {s t : State} (hw : s.regs.SameSession s.working)
    (h : execCrcCheck s = .next t) : s.KeepsSession t := by
  obtain ⟨-, h⟩ | ⟨x, p, a, -, -, h⟩ := resume_cases h
  · split at h
    · exact refuse_keepsSession h
    · exact crcCall_keepsSession h
  · cases x with
    | crc =>
      refine crcStep_keepsSession hw (fun c hc => ?_) h
      split at hc
      · exact succeed_keepsSession (hw.setCrcRes c) hc
      · exact failWith_keepsSession (hw.setCrcRes c) hc
    | _ => cases h

/-- Settles O39: a CRC command ends its step by a finish or a request with copies that differ from
the registers at most in CRC_RES. -/
theorem crcCommandsLeaveTheSession : Obligations.CrcCommandsLeaveTheSession := by
  intro s t i hi hseq hops h
  have hw : s.regs.SameSession s.working := ⟨hseq, hops⟩
  have hkeeps : s.KeepsSession t := by
    rcases hi with rfl | rfl
    · exact execCrcCalc_keepsSession hw h
    · exact execCrcCheck_keepsSession hw h
  exact ⟨hkeeps.regs.seq, hkeeps.regs.ops, hkeeps.working.seq, hkeeps.working.ops⟩

end Sys2Proof.Machine

/-! PROOFS about the session outcome of the tag commands (44_iso14443_anticoll.md R185, R186): what
one internal computation of a SEQ command but STOPCRYPTO can do, at its start and past it. Each
shared sequence is treated once, for any continuation, and the commands are assembled from them. -/

namespace Sys2Proof.Machine

open Sys2Proof.Safety

/-! ### Properties of the next state -/

/-- The next state of `o`, when it has one, meets `P`. -/
def NextMeets (P : State → Prop) (o : Out) : Prop := ∀ t, o = .next t → P t

theorem NextMeets.next {P : State → Prop} {t : State} (h : P t) : NextMeets P (.next t) := by
  rintro _ ⟨⟩
  exact h

theorem NextMeets.fault {P : State → Prop} (f : Fault) : NextMeets P (.fault f) := by
  rintro _ ⟨⟩

theorem NextMeets.ite {P : State → Prop} {c : Prop} [Decidable c] {o o' : Out}
    (h : NextMeets P o) (h' : NextMeets P o') : NextMeets P (if c then o else o') := by
  split
  · exact h
  · exact h'

/-! ### The two kinds of turn (R128, R186) -/

/-- A turn at the start of a tag command: it goes on to an exchange, or refuses with a COMMAND
error that publishes the registers as they stand (R128). -/
inductive StartTurn (s : State) : State → Prop
  | goesOn {t : State} (h : t.phase = s.phase) : StartTurn s t
  | refuses (k : Cause) : StartTurn s (s.finish s.regs .error .command k)

/-- A turn of a tag command past its start (R186): it goes on, succeeds, or fails with the session
ended on the working copies. -/
inductive TagTurn (s : State) : State → Prop
  | goesOn {t : State} (h : t.phase = s.phase) : TagTurn s t
  | succeeds (w : Regs) : TagTurn s (s.finish w .ok .none .none)
  | loses : TagTurn s (s.finish s.working.tagGone .notag .none .noResponse)
  | fails (c : ErrClass) (k : Cause) : TagTurn s (s.finish s.working.sessionAbort .error c k)

/-- A turn of a tag command, by its position. -/
structure CommandTurn (s t : State) : Prop where
  atStart : s.pcSeq = .start → StartTurn s t
  pastStart : ∀ x p, s.pcSeq = .at x p → TagTurn s t

/-- A start turn that finishes has refused. -/
theorem StartTurn.refused_of_idle {s t : State} (h : StartTurn s t) (hs : s.phase = .exec)
    (ht : t.phase = .idle) : t.result = .error ∧ t.errClass = .command ∧ t.regs = s.regs := by
  cases h with
  | goesOn h => simp [hs, ht] at h
  | refuses k => exact ⟨rfl, rfl, rfl⟩

/-- A later turn that finishes without success has ended the session, with the writes of R185. -/
theorem TagTurn.ended_of_idle {s t : State} (h : TagTurn s t) (hs : s.phase = .exec)
    (ht : t.phase = .idle) :
    (t.result = .ok ∧ t.errClass = .none ∧ t.cause = .none) ∨
    (t.result = .notag ∧ t.cause = .noResponse ∧ t.regs = s.working.tagGone) ∨
    (t.result = .error ∧ t.regs = s.working.sessionAbort) := by
  cases h with
  | goesOn h => simp [hs, ht] at h
  | succeeds w => exact .inl ⟨rfl, rfl, rfl⟩
  | loses => exact .inr (.inl ⟨rfl, rfl, rfl⟩)
  | fails c k => exact .inr (.inr ⟨rfl, rfl⟩)

/-! ### Ends of a turn -/

section Ends
variable {s : State}

theorem refuse_startTurn (k : Cause) : NextMeets (StartTurn s) (refuse s .command k) :=
  .next (.refuses k)

theorem illegal_startTurn (v : Verdict) : NextMeets (StartTurn s) (illegal s v) :=
  refuse_startTurn (verdictCause v)

theorem succeed_tagTurn (w : Regs) : NextMeets (TagTurn s) (succeed s w) := .next (.succeeds w)

theorem seqFail_tagTurn (c : ErrClass) (k : Cause) :
    NextMeets (TagTurn s) (seqFail s s.working c k) := .next (.fails c k)

/-- Preparing a request does not finish the command. -/
theorem ask_startTurn {w : Regs} {x : Stage} {p : Prim} {r : FeReq} :
    NextMeets (StartTurn s) (.next (s.ask w x p r)) := .next (.goesOn rfl)

/-- Past the start the request may follow a write of a hidden item, as `State.holdRx`. -/
theorem ask_tagTurn {u : State} {w : Regs} {x : Stage} {p : Prim} {r : FeReq}
    (hu : u.phase = s.phase) : NextMeets (TagTurn s) (.next (u.ask w x p r)) := .next (.goesOn hu)

end Ends

/-! ### Helper sequences (R90 to R92) -/

section Helpers
variable {s : State} {x : Stage} {p : Prim} {a : FeAns}

/-- `crc16` called with `seqFail` (R170). -/
theorem crcStep_tagTurn {ret : BitVec 16 → Out} (hret : ∀ c, NextMeets (TagTurn s) (ret c)) :
    NextMeets (TagTurn s) (crcStep s s.working x p a (seqFail s s.working) ret) := by
  intro t h
  obtain ⟨-, h⟩ | ⟨-, -, rfl⟩ | ⟨-, -, rfl⟩ | ⟨-, -, -, h⟩ | ⟨-, -, -, rfl⟩ | ⟨lo, hi, -, -, h⟩ :=
    crcStep_cases h
  · exact seqFail_tagTurn _ _ t h
  · exact .goesOn rfl
  · exact .goesOn rfl
  · exact seqFail_tagTurn _ _ t h
  · exact .goesOn rfl
  · exact hret _ t h

theorem trxStep_tagTurn {ret : List Byte → Nat → Out}
    (hret : ∀ rx bits, NextMeets (TagTurn s) (ret rx bits)) :
    NextMeets (TagTurn s) (trxStep s s.working x p a ret) := by
  intro t h
  obtain ⟨-, rfl⟩ | ⟨-, -, rfl⟩ | ⟨-, -, rfl⟩ | ⟨-, -, rfl⟩ | ⟨-, -, -, rfl⟩ | ⟨-, -, -, rfl⟩ |
    ⟨-, -, rfl⟩ | ⟨rx, bits, -, -, h⟩ := trxStep_cases h
  · exact .fails _ _
  · exact .goesOn rfl
  · exact .loses
  · exact .fails _ _
  · exact .fails _ _
  · exact .goesOn rfl
  · exact .goesOn rfl
  · exact hret rx bits t h

theorem authStep_tagTurn {ret : Out} (hret : NextMeets (TagTurn s) ret) :
    NextMeets (TagTurn s) (authStep s s.working p a ret) := by
  intro t h
  obtain ⟨-, rfl⟩ | ⟨-, -, rfl⟩ | ⟨-, -, rfl⟩ | ⟨-, -, rfl⟩ | ⟨-, -, -, rfl⟩ | ⟨-, -, -, rfl⟩ |
    ⟨-, -, rfl⟩ | ⟨-, -, rfl⟩ | ⟨-, -, h⟩ := authStep_cases h
  · exact .fails _ _
  · exact .goesOn rfl
  · exact .loses
  · exact .fails _ _
  · exact .fails _ _
  · exact .goesOn rfl
  · exact .goesOn rfl
  · exact .fails _ _
  · exact hret t h

/-- The two phases of a resumed command meet the two kinds of turn. -/
theorem resume_commandTurn {first : Out} {next : Stage → Prim → FeAns → Out}
    (hfirst : NextMeets (StartTurn s) first)
    (hnext : ∀ x p a, NextMeets (TagTurn s) (next x p a)) :
    NextMeets (CommandTurn s) (resume s first next) := by
  intro t h
  obtain ⟨hp, h⟩ | ⟨x, p, a, hp, -, h⟩ := resume_cases h
  · exact ⟨fun _ => hfirst t h, fun x p hat => by simp [hp] at hat⟩
  · exact ⟨fun hstart => by simp [hp] at hstart, fun _ _ _ => hnext x p a t h⟩

end Helpers

/-! ### `do_request`, `do_anticoll` and `do_select` (R171, R174, R177) -/

section Sequences
variable {s : State} {l : BitVec 2} {p : Prim} {a : FeAns} {ret : Regs → Out}

theorem requestStep_tagTurn (hret : ∀ w, NextMeets (TagTurn s) (ret w)) :
    NextMeets (TagTurn s) (requestStep s s.working p a ret) :=
  trxStep_tagTurn fun _ _ => .ite (hret _) (seqFail_tagTurn _ _)

theorem anticollStep_tagTurn (hret : ∀ w, NextMeets (TagTurn s) (ret w)) :
    NextMeets (TagTurn s) (anticollStep s s.working l p a ret) :=
  trxStep_tagTurn fun _ _ =>
    .ite (seqFail_tagTurn _ _) (.ite (seqFail_tagTurn _ _) (.ite (seqFail_tagTurn _ _) (hret _)))

theorem selectCrcStep_tagTurn : NextMeets (TagTurn s) (selectCrcStep s s.working l p a) :=
  crcStep_tagTurn fun _ => ask_tagTurn rfl

theorem selectTrxStep_tagTurn (hret : ∀ w, NextMeets (TagTurn s) (ret w)) :
    NextMeets (TagTurn s) (selectTrxStep s s.working l p a ret) :=
  trxStep_tagTurn fun _ _ => .ite (seqFail_tagTurn _ _) (.ite (ask_tagTurn rfl) (hret _))

theorem selectChkStep_tagTurn (hret : ∀ w, NextMeets (TagTurn s) (ret w)) :
    NextMeets (TagTurn s) (selectChkStep s s.working l p a ret) :=
  crcStep_tagTurn fun _ => .ite (hret _) (seqFail_tagTurn _ _)

end Sequences

/-! ### The commands -/

theorem execRequest_commandTurn (m : ReqMode) (s : State) :
    NextMeets (CommandTurn s) (execRequest m s) := by
  refine resume_commandTurn ?start fun x p a => ?past
  case start => exact .ite (refuse_startTurn _) ask_startTurn
  case past =>
    cases x with
    | request => exact requestStep_tagTurn succeed_tagTurn
    | _ => exact .fault _

theorem execAnticoll_commandTurn (l : BitVec 2) (s : State) :
    NextMeets (CommandTurn s) (execAnticoll l s) := by
  refine resume_commandTurn ?start fun x p a => ?past
  case start =>
    exact .ite (illegal_startTurn _) (.ite (refuse_startTurn _)
      (.ite ask_startTurn (refuse_startTurn _)))
  case past =>
    cases x with
    | anticoll k => exact anticollStep_tagTurn succeed_tagTurn
    | _ => exact .fault _

theorem execSelect_commandTurn (l : BitVec 2) (s : State) :
    NextMeets (CommandTurn s) (execSelect l s) := by
  refine resume_commandTurn ?start fun x p a => ?past
  case start =>
    exact .ite (illegal_startTurn _) (.ite (refuse_startTurn _)
      (.ite ask_startTurn (refuse_startTurn _)))
  case past =>
    cases x with
    | selectCrc k => exact selectCrcStep_tagTurn
    | selectTrx k => exact selectTrxStep_tagTurn succeed_tagTurn
    | selectChk k => exact selectChkStep_tagTurn succeed_tagTurn
    | _ => exact .fault _

/-- SCAN continues each sequence by the call of the next, which cannot finish (R180). -/
theorem execScan_commandTurn (m : ReqMode) (s : State) :
    NextMeets (CommandTurn s) (execScan m s) := by
  refine resume_commandTurn ?start fun x p a => ?past
  case start => exact .ite (refuse_startTurn _) ask_startTurn
  case past =>
    cases x with
    | request => exact requestStep_tagTurn fun _ => ask_tagTurn rfl
    | anticoll l =>
      exact anticollStep_tagTurn fun w => .ite (ask_tagTurn rfl) (succeed_tagTurn w)
    | selectCrc l => exact selectCrcStep_tagTurn
    | selectTrx l => exact selectTrxStep_tagTurn fun _ => ask_tagTurn rfl
    | selectChk l => exact selectChkStep_tagTurn fun _ => ask_tagTurn rfl
    | _ => exact .fault _

theorem execAuth_commandTurn (k : KeyType) (a : Byte) (s : State) :
    NextMeets (CommandTurn s) (execAuth k a s) := by
  refine resume_commandTurn ?start fun x p ans => ?past
  case start =>
    exact .ite (refuse_startTurn _) (.ite ask_startTurn (refuse_startTurn _))
  case past =>
    cases x with
    | auth => exact authStep_tagTurn (succeed_tagTurn _)
    | _ => exact .fault _

theorem readReply_tagTurn {s : State} (rx : List Byte) (bits : Nat) :
    NextMeets (TagTurn s) (readReply s s.working rx bits) :=
  .ite (seqFail_tagTurn _ _) (.ite (seqFail_tagTurn _ _)
    (.ite (ask_tagTurn rfl) (succeed_tagTurn _)))

theorem execRead_commandTurn (c : CardKind) (a : Byte) (s : State) :
    NextMeets (CommandTurn s) (execRead c a s) := by
  refine resume_commandTurn ?start fun x p ans => ?past
  case start => exact .ite ask_startTurn (refuse_startTurn _)
  case past =>
    cases x with
    | readCrc => exact crcStep_tagTurn fun _ => ask_tagTurn rfl
    | readTrx => exact trxStep_tagTurn readReply_tagTurn
    | readChk => exact crcStep_tagTurn fun _ => .ite (succeed_tagTurn _) (seqFail_tagTurn _ _)
    | _ => exact .fault _

theorem execWriteClassic_commandTurn (a : Byte) (s : State) :
    NextMeets (CommandTurn s) (execWriteClassic a s) := by
  refine resume_commandTurn ?start fun x p ans => ?past
  case start => exact .ite ask_startTurn (refuse_startTurn _)
  case past =>
    cases x with
    | writeCrc => exact crcStep_tagTurn fun _ => ask_tagTurn rfl
    | writeTrx => exact trxStep_tagTurn fun _ _ => .ite (ask_tagTurn rfl) (seqFail_tagTurn _ _)
    | dataCrc => exact crcStep_tagTurn fun _ => ask_tagTurn rfl
    | dataTrx => exact trxStep_tagTurn fun _ _ => .ite (succeed_tagTurn _) (seqFail_tagTurn _ _)
    | _ => exact .fault _

theorem execWriteNtag_commandTurn (a : Byte) (s : State) :
    NextMeets (CommandTurn s) (execWriteNtag a s) := by
  refine resume_commandTurn ?start fun x p ans => ?past
  case start => exact .ite ask_startTurn (refuse_startTurn _)
  case past =>
    cases x with
    | writeCrc => exact crcStep_tagTurn fun _ => ask_tagTurn rfl
    | writeTrx => exact trxStep_tagTurn fun _ _ => .ite (succeed_tagTurn _) (seqFail_tagTurn _ _)
    | _ => exact .fault _

/-- Every internal computation of a tag command is a turn of R186. -/
theorem exec_commandTurn {i : Instr} (hi : isTagCommand i = true) (s : State) :
    NextMeets (CommandTurn s) (exec i s) := by
  cases i with
  | request m => exact execRequest_commandTurn m s
  | anticoll l => exact execAnticoll_commandTurn l s
  | select l => exact execSelect_commandTurn l s
  | scan m => exact execScan_commandTurn m s
  | auth k a => exact execAuth_commandTurn k a s
  | read c a => exact execRead_commandTurn c a s
  | writeClassic a => exact execWriteClassic_commandTurn a s
  | writeNtag a => exact execWriteNtag_commandTurn a s
  | _ => cases hi

/-- Settles O54: the turn of a tag command by its position, with the finish that each kind allows;
the records of the statement are those of `tagGone` and `sessionAbort` (R185). -/
theorem tagFailuresEndTheSession : Obligations.TagFailuresEndTheSession := by
  intro i s t hi hexec h hidle
  have hturn : CommandTurn s t := exec_commandTurn hi s t h
  exact ⟨fun x p hp => (hturn.pastStart x p hp).ended_of_idle hexec hidle,
    fun hp => (hturn.atStart hp).refused_of_idle hexec hidle⟩

end Sys2Proof.Machine

/-! PROOFS about the host's stored numbers and texts (47_host_storage.md R204, R206, R209, R210):
the word that four stored bytes make, and the bytes that stand before a text's terminator. -/

namespace Sys2Proof.Machine

/-! ### Words and their bytes (R67) -/

/-- Packing does not depend on how the four bytes are grouped. -/
theorem packWord_eq_append (b0 b1 b2 b3 : Byte) :
    packWord b0 b1 b2 b3 = (b3 ++ b2 ++ b1 ++ b0 : BitVec 32) :=
  (BitVec.append_assoc (x₁ := b3 ++ b2) (x₂ := b1) (x₃ := b0)).symm

/-- The bytes of a word pack into it again: neighbours join into halves, and the halves into it. -/
theorem packWord_wordByte (w : Word) :
    packWord (wordByte w 0) (wordByte w 1) (wordByte w 2) (wordByte w 3) = w :=
  calc packWord (wordByte w 0) (wordByte w 1) (wordByte w 2) (wordByte w 3)
    _ = w.extractLsb' 16 16 ++ w.extractLsb' 0 16 :=
      congrArg₂ (· ++ · : BitVec 16 → BitVec 16 → BitVec 32)
        (BitVec.extractLsb'_append_extractLsb'_eq_extractLsb' (by decide))
        (BitVec.extractLsb'_append_extractLsb'_eq_extractLsb' (by decide))
    _ = w := BitVec.extractLsb'_append_extractLsb'

namespace HostConv

/-! ### Numbers (R209, R210) -/

/-- What is read depends on the first four bytes only, so padding after them is not seen (R210). -/
theorem numberOf_append (b0 b1 b2 b3 : Byte) (rest : List Byte) :
    numberOf ([b0, b1, b2, b3] ++ rest) = (packWord b0 b1 b2 b3).toInt := rfl

theorem numberOf_numberBytes_append (n : Int) (rest : List Byte) :
    numberOf (numberBytes n ++ rest) = (toWord n).toInt := by
  rw [numberBytes, wordBytes, numberOf_append, packWord_wordByte]

theorem numberOf_numberBytes {n : Int} (h : fit32 n = true) : numberOf (numberBytes n) = n := by
  rw [← List.append_nil (numberBytes n), numberOf_numberBytes_append, toInt_toWord h]

theorem numberOf_classicNumberUnit (n : Int) :
    numberOf (classicNumberUnit n) = numberOf (numberBytes n) :=
  (numberOf_numberBytes_append n _).trans (numberOf_numberBytes_append n []).symm

/-! ### The number slot (R210) -/

theorem numberSlots_default {p : HostParams} (h : p.numberSlot = none) :
    p.classicNumberSlot = p.classicBlocks[8] ∧
      p.ntagNumberSlot = p.ntagPage (p.ntagPages - 1) := by
  simp [HostParams.classicNumberSlot, HostParams.ntagNumberSlot, h]

theorem numberSlots_given {p : HostParams} {a : Byte} (h : p.numberSlot = some a) :
    p.classicNumberSlot = a ∧ p.ntagNumberSlot = a := by
  simp [HostParams.classicNumberSlot, HostParams.ntagNumberSlot, h]

/-! ### Texts (R204, R206) -/

theorem textStream_of_lt {cap : Nat} {t : List Byte} (h : t.length < cap) :
    textStream cap t = t ++ [0] := if_pos h

theorem textStream_of_le {cap : Nat} {t : List Byte} (h : cap ≤ t.length) :
    textStream cap t = t.take cap := if_neg h.not_gt

/-- A read passes over bytes that are not 0x00. -/
theorem readText_append {t : List Byte} (h : ∀ b ∈ t, b ≠ 0) (rest : List Byte) :
    readText (t ++ rest) = t ++ readText rest :=
  List.takeWhile_append_of_pos fun b hb => bne_iff_ne.mpr (h b hb)

/-- A read stops at the first 0x00. -/
theorem readText_zero (rest : List Byte) : readText (0 :: rest) = [] := rfl

/-- A text that ends with its terminator reads back whatever follows it in the area. -/
theorem readText_terminated {t : List Byte} (h : ∀ b ∈ t, b ≠ 0) (rest : List Byte) :
    readText (t ++ [0] ++ rest) = t :=
  calc readText (t ++ [0] ++ rest)
    _ = readText (t ++ 0 :: rest) := by rw [List.append_assoc, List.singleton_append]
    _ = t ++ readText (0 :: rest) := readText_append h _
    _ = t := by rw [readText_zero, List.append_nil]

/-- A text without 0x00 that fills its area has no terminator and reads back to its end. -/
theorem readText_unterminated {t : List Byte} (h : ∀ b ∈ t, b ≠ 0) : readText t = t := by
  simpa [readText] using readText_append h []

/-- A text without 0x00 that fits its area reads back, whatever follows its terminator. -/
theorem readText_textStream_of_lt {cap : Nat} {t : List Byte} (ht : ∀ b ∈ t, b ≠ 0)
    (h : t.length < cap) (rest : List Byte) : readText (textStream cap t ++ rest) = t := by
  rw [textStream_of_lt h, readText_terminated ht]

/-- A text without 0x00 that fills its area reads back as the part that was stored. -/
theorem readText_textStream_of_le {cap : Nat} {t : List Byte} (ht : ∀ b ∈ t, b ≠ 0)
    (h : cap ≤ t.length) : readText (textStream cap t) = t.take cap := by
  rw [textStream_of_le h, readText_unterminated fun b hb => ht b (List.mem_of_mem_take hb)]

/-- Settles O60: a number is the word of its four bytes and a 32-bit number is its word's value; a
text's stream ends with a terminator, where the read stops, or fills the area, where it ends. -/
theorem storedNumbersAndTextsReadBack : Obligations.StoredNumbersAndTextsReadBack := by
  have hbytes (b0 b1 b2 b3 : Byte) :
      numberOf [b0, b1, b2, b3] = (b3 ++ b2 ++ b1 ++ b0 : BitVec 32).toInt := by
    rw [← packWord_eq_append]
    exact numberOf_append b0 b1 b2 b3 []
  exact ⟨fun n hlo hhi => ⟨rfl, numberOf_numberBytes (decide_eq_true ⟨hlo, hhi⟩)⟩,
    hbytes,
    by decide,
    fun n => ⟨rfl, numberOf_classicNumberUnit n⟩,
    fun p => ⟨numberSlots_default, fun _ => numberSlots_given⟩,
    fun _ _ rest ht h => readText_textStream_of_lt ht h rest,
    fun _ _ ht h => readText_textStream_of_le ht h⟩

end HostConv

end Sys2Proof.Machine

/-! PROOFS about what one turn of the engine leaves alone, at any state: the next state of a command
is a finish or a prepared request, so registers change at a finish (10_state.md R55) and the mark of
a late answer does not (R54, 70_reset_and_hazards.md R236). -/

namespace Sys2Proof.Machine

open Sys2Proof.Safety

/-- Settles O1: a well-formed command passes the three checks at its own word. -/
theorem legalCommandsDecodeFromTheirWords : Obligations.LegalCommandsDecodeFromTheirWords :=
  fun _ h => decode_encode h

/-! ### The two kinds of next state (R120) -/

/-- `s` with a request prepared after a change of the poll count and of the held frame. -/
def State.askWith (s : State) (n : Nat) (bs : List Byte) (w : Regs) (x : Stage) (p : Prim)
    (r : FeReq) : State := ((s.setPoll n).holdRx bs).ask w x p r

/-- A state in which a computation can end. -/
inductive ComputesTo (s : State) : State → Prop
  | finishes (w : Regs) (r : Result) (c : ErrClass) (k : Cause) : ComputesTo s (s.finish w r c k)
  | asks (n : Nat) (bs : List Byte) (w : Regs) (x : Stage) (p : Prim) (r : FeReq) :
      ComputesTo s (s.askWith n bs w x p r)

/-- Until a command finishes its writes are to the working copies (R55). -/
theorem ComputesTo.regs_of_exec {s t : State} (h : ComputesTo s t) (ht : t.phase = .exec) :
    t.regs = s.regs := by
  cases h with
  | finishes w r c k => cases ht
  | asks n bs w x p r => rfl

theorem ComputesTo.feDiscard {s t : State} (h : ComputesTo s t) : t.feDiscard = s.feDiscard := by
  cases h <;> rfl

/-- A computation makes no request itself (R120). -/
theorem ComputesTo.feWait {s t : State} (h : ComputesTo s t) (hs : s.feWait = false) :
    t.feWait = false := by
  cases h with
  | finishes w r c k => rfl
  | asks n bs w x p r => exact hs

section Sequences
variable {s : State} {w : Regs}

theorem succeed_computesTo : NextMeets (ComputesTo s) (succeed s w) := .next (.finishes ..)

theorem failWith_computesTo (c : ErrClass) (k : Cause) :
    NextMeets (ComputesTo s) (failWith s w c k) := .next (.finishes ..)

theorem refuse_computesTo {c : ErrClass} {k : Cause} : NextMeets (ComputesTo s) (refuse s c k) :=
  failWith_computesTo _ _

theorem seqFail_computesTo (c : ErrClass) (k : Cause) :
    NextMeets (ComputesTo s) (seqFail s w c k) := failWith_computesTo _ _

theorem ask_computesTo {x : Stage} {p : Prim} {r : FeReq} :
    NextMeets (ComputesTo s) (.next (s.ask w x p r)) := .next (.asks s.pollcnt s.rxHeld ..)

theorem ask_holdRx_computesTo {bs : List Byte} {x : Stage} {p : Prim} {r : FeReq} :
    NextMeets (ComputesTo s) (.next ((s.holdRx bs).ask w x p r)) := .next (.asks s.pollcnt bs ..)

theorem crcStep_computesTo {x : Stage} {p : Prim} {a : FeAns} {fail : ErrClass → Cause → Out}
    {ret : BitVec 16 → Out} (hfail : ∀ c k, NextMeets (ComputesTo s) (fail c k))
    (hret : ∀ c, NextMeets (ComputesTo s) (ret c)) :
    NextMeets (ComputesTo s) (crcStep s w x p a fail ret) := by
  intro t h
  obtain ⟨-, h⟩ | ⟨-, -, rfl⟩ | ⟨-, -, rfl⟩ | ⟨-, -, -, h⟩ | ⟨-, -, -, rfl⟩ | ⟨lo, hi, -, -, h⟩ :=
    crcStep_cases h
  · exact hfail _ _ t h
  · exact .asks 1 s.rxHeld ..
  · exact .asks s.pollcnt s.rxHeld ..
  · exact hfail _ _ t h
  · exact .asks (s.pollcnt + 1) s.rxHeld ..
  · exact hret _ t h

theorem trxStep_computesTo {x : Stage} {p : Prim} {a : FeAns} {ret : List Byte → Nat → Out}
    (hret : ∀ rx bits, NextMeets (ComputesTo s) (ret rx bits)) :
    NextMeets (ComputesTo s) (trxStep s w x p a ret) := by
  intro t h
  obtain ⟨-, rfl⟩ | ⟨-, -, rfl⟩ | ⟨-, -, rfl⟩ | ⟨-, -, rfl⟩ | ⟨-, -, -, rfl⟩ | ⟨-, -, -, rfl⟩ |
    ⟨-, -, rfl⟩ | ⟨rx, bits, -, -, h⟩ := trxStep_cases h
  · exact .finishes ..
  · exact .asks 1 s.rxHeld ..
  · exact .finishes ..
  · exact .finishes ..
  · exact .finishes ..
  · exact .asks (s.pollcnt + 1) s.rxHeld ..
  · exact .asks s.pollcnt s.rxHeld ..
  · exact hret rx bits t h

theorem authStep_computesTo {p : Prim} {a : FeAns} {ret : Out}
    (hret : NextMeets (ComputesTo s) ret) : NextMeets (ComputesTo s) (authStep s w p a ret) := by
  intro t h
  obtain ⟨-, rfl⟩ | ⟨-, -, rfl⟩ | ⟨-, -, rfl⟩ | ⟨-, -, rfl⟩ | ⟨-, -, -, rfl⟩ | ⟨-, -, -, rfl⟩ |
    ⟨-, -, rfl⟩ | ⟨-, -, rfl⟩ | ⟨-, -, h⟩ := authStep_cases h
  · exact .finishes ..
  · exact .asks 1 s.rxHeld ..
  · exact .finishes ..
  · exact .finishes ..
  · exact .finishes ..
  · exact .asks (s.pollcnt + 1) s.rxHeld ..
  · exact .asks s.pollcnt s.rxHeld ..
  · exact .finishes ..
  · exact hret t h

theorem requestStep_computesTo {p : Prim} {a : FeAns} {ret : Regs → Out}
    (hret : ∀ w, NextMeets (ComputesTo s) (ret w)) :
    NextMeets (ComputesTo s) (requestStep s w p a ret) :=
  trxStep_computesTo fun _ _ => .ite (hret _) (seqFail_computesTo _ _)

theorem anticollStep_computesTo {l : BitVec 2} {p : Prim} {a : FeAns} {ret : Regs → Out}
    (hret : ∀ w, NextMeets (ComputesTo s) (ret w)) :
    NextMeets (ComputesTo s) (anticollStep s w l p a ret) :=
  trxStep_computesTo fun _ _ => .ite (seqFail_computesTo _ _)
    (.ite (seqFail_computesTo _ _) (.ite (seqFail_computesTo _ _) (hret _)))

theorem selectCrcStep_computesTo {l : BitVec 2} {p : Prim} {a : FeAns} :
    NextMeets (ComputesTo s) (selectCrcStep s w l p a) :=
  crcStep_computesTo seqFail_computesTo fun _ => ask_computesTo

theorem selectTrxStep_computesTo {l : BitVec 2} {p : Prim} {a : FeAns} {ret : Regs → Out}
    (hret : ∀ w, NextMeets (ComputesTo s) (ret w)) :
    NextMeets (ComputesTo s) (selectTrxStep s w l p a ret) :=
  trxStep_computesTo fun _ _ =>
    .ite (seqFail_computesTo _ _) (.ite ask_holdRx_computesTo (hret _))

theorem selectChkStep_computesTo {l : BitVec 2} {p : Prim} {a : FeAns} {ret : Regs → Out}
    (hret : ∀ w, NextMeets (ComputesTo s) (ret w)) :
    NextMeets (ComputesTo s) (selectChkStep s w l p a ret) :=
  crcStep_computesTo seqFail_computesTo fun _ => .ite (hret _) (seqFail_computesTo _ _)

theorem resume_computesTo {first : Out} {next : Stage → Prim → FeAns → Out}
    (hfirst : NextMeets (ComputesTo s) first)
    (hnext : ∀ x p a, NextMeets (ComputesTo s) (next x p a)) :
    NextMeets (ComputesTo s) (resume s first next) := by
  intro t h
  obtain ⟨-, h⟩ | ⟨x, p, a, -, -, h⟩ := resume_cases h
  · exact hfirst t h
  · exact hnext x p a t h

/-- The three ends of a pressure step are finishes. -/
theorem pressFinish_computesTo {r : Option Int} :
    NextMeets (ComputesTo s) (pressFinish s w r) := by
  intro t h
  obtain ⟨-, rfl⟩ | ⟨p, -, -, rfl⟩ | ⟨p, -, -, rfl⟩ := pressFinish_cases h <;> exact .finishes ..

end Sequences

/-! ### The commands -/

section Commands
variable (s : State)

theorem execCrcCalc_computesTo : NextMeets (ComputesTo s) (execCrcCalc s) := by
  refine resume_computesTo (.ite refuse_computesTo ask_computesTo) fun x p a => ?_
  cases x with
  | crc => exact crcStep_computesTo failWith_computesTo fun _ => succeed_computesTo
  | _ => exact .fault _

theorem execCrcCheck_computesTo : NextMeets (ComputesTo s) (execCrcCheck s) := by
  refine resume_computesTo (.ite refuse_computesTo ask_computesTo) fun x p a => ?_
  cases x with
  | crc =>
    exact crcStep_computesTo failWith_computesTo fun _ =>
      .ite succeed_computesTo (failWith_computesTo _ _)
  | _ => exact .fault _

theorem execRequest_computesTo (m : ReqMode) : NextMeets (ComputesTo s) (execRequest m s) := by
  refine resume_computesTo (.ite refuse_computesTo ask_computesTo) fun x p a => ?_
  cases x with
  | request => exact requestStep_computesTo fun _ => succeed_computesTo
  | _ => exact .fault _

theorem execAnticoll_computesTo (l : BitVec 2) : NextMeets (ComputesTo s) (execAnticoll l s) := by
  refine resume_computesTo (.ite refuse_computesTo (.ite refuse_computesTo
    (.ite ask_computesTo refuse_computesTo))) fun x p a => ?_
  cases x with
  | anticoll k => exact anticollStep_computesTo fun _ => succeed_computesTo
  | _ => exact .fault _

theorem execSelect_computesTo (l : BitVec 2) : NextMeets (ComputesTo s) (execSelect l s) := by
  refine resume_computesTo (.ite refuse_computesTo (.ite refuse_computesTo
    (.ite ask_computesTo refuse_computesTo))) fun x p a => ?_
  cases x with
  | selectCrc k => exact selectCrcStep_computesTo
  | selectTrx k => exact selectTrxStep_computesTo fun _ => succeed_computesTo
  | selectChk k => exact selectChkStep_computesTo fun _ => succeed_computesTo
  | _ => exact .fault _

theorem execScan_computesTo (m : ReqMode) : NextMeets (ComputesTo s) (execScan m s) := by
  refine resume_computesTo (.ite refuse_computesTo ask_computesTo) fun x p a => ?_
  cases x with
  | request => exact requestStep_computesTo fun _ => ask_computesTo
  | anticoll l => exact anticollStep_computesTo fun _ => .ite ask_computesTo succeed_computesTo
  | selectCrc l => exact selectCrcStep_computesTo
  | selectTrx l => exact selectTrxStep_computesTo fun _ => ask_computesTo
  | selectChk l => exact selectChkStep_computesTo fun _ => ask_computesTo
  | _ => exact .fault _

theorem execAuth_computesTo (k : KeyType) (a : Byte) :
    NextMeets (ComputesTo s) (execAuth k a s) := by
  refine resume_computesTo (.ite refuse_computesTo (.ite ask_computesTo refuse_computesTo))
    fun x p ans => ?_
  cases x with
  | auth => exact authStep_computesTo succeed_computesTo
  | _ => exact .fault _

theorem execStopCrypto_computesTo : NextMeets (ComputesTo s) (execStopCrypto s) := by
  refine resume_computesTo ask_computesTo fun x p a => ?_
  split
  · exact succeed_computesTo
  · exact failWith_computesTo _ _
  · exact .fault _
  · exact .fault _

theorem execRead_computesTo (c : CardKind) (a : Byte) :
    NextMeets (ComputesTo s) (execRead c a s) := by
  refine resume_computesTo (.ite ask_computesTo refuse_computesTo) fun x p ans => ?_
  cases x with
  | readCrc => exact crcStep_computesTo seqFail_computesTo fun _ => ask_computesTo
  | readTrx =>
    exact trxStep_computesTo fun _ _ => .ite (seqFail_computesTo _ _)
      (.ite (seqFail_computesTo _ _) (.ite ask_holdRx_computesTo succeed_computesTo))
  | readChk =>
    exact crcStep_computesTo seqFail_computesTo fun _ =>
      .ite succeed_computesTo (seqFail_computesTo _ _)
  | _ => exact .fault _

theorem execWriteClassic_computesTo (a : Byte) :
    NextMeets (ComputesTo s) (execWriteClassic a s) := by
  refine resume_computesTo (.ite ask_computesTo refuse_computesTo) fun x p ans => ?_
  cases x with
  | writeCrc => exact crcStep_computesTo seqFail_computesTo fun _ => ask_computesTo
  | writeTrx => exact trxStep_computesTo fun _ _ => .ite ask_computesTo (seqFail_computesTo _ _)
  | dataCrc => exact crcStep_computesTo seqFail_computesTo fun _ => ask_computesTo
  | dataTrx =>
    exact trxStep_computesTo fun _ _ => .ite succeed_computesTo (seqFail_computesTo _ _)
  | _ => exact .fault _

theorem execWriteNtag_computesTo (a : Byte) : NextMeets (ComputesTo s) (execWriteNtag a s) := by
  refine resume_computesTo (.ite ask_computesTo refuse_computesTo) fun x p ans => ?_
  cases x with
  | writeCrc => exact crcStep_computesTo seqFail_computesTo fun _ => ask_computesTo
  | writeTrx =>
    exact trxStep_computesTo fun _ _ => .ite succeed_computesTo (seqFail_computesTo _ _)
  | _ => exact .fault _

/-- Every internal computation ends in a finish or at the next request (R120). -/
theorem exec_computesTo (i : Instr) : NextMeets (ComputesTo s) (exec i s) := by
  cases i with
  | nop => exact succeed_computesTo
  | bmeCalCommit => exact .ite succeed_computesTo refuse_computesTo
  | bmeCalClear => exact succeed_computesTo
  | bmeT => exact .ite succeed_computesTo refuse_computesTo
  | bmeP => exact .ite (.ite pressFinish_computesTo refuse_computesTo) refuse_computesTo
  | bmeH => exact .ite (.ite succeed_computesTo refuse_computesTo) refuse_computesTo
  | bmeAll => exact .ite pressFinish_computesTo refuse_computesTo
  | msCalCommit => exact .ite succeed_computesTo refuse_computesTo
  | msCalClear => exact succeed_computesTo
  | msComp => exact .ite (.ite succeed_computesTo (failWith_computesTo _ _)) refuse_computesTo
  | crcCalc => exact execCrcCalc_computesTo s
  | crcCheck => exact execCrcCheck_computesTo s
  | request m => exact execRequest_computesTo s m
  | anticoll l => exact execAnticoll_computesTo s l
  | select l => exact execSelect_computesTo s l
  | scan m => exact execScan_computesTo s m
  | auth k a => exact execAuth_computesTo s k a
  | stopCrypto => exact execStopCrypto_computesTo s
  | read c a => exact execRead_computesTo s c a
  | writeClassic a => exact execWriteClassic_computesTo s a
  | writeNtag a => exact execWriteNtag_computesTo s a

end Commands

/-! ### The engine's turn -/

/-- Making a request is no register write, but for CRYPTO_HELD with `fe.auth_start` (R191). -/
theorem issue_regs (s : State) (r : FeReq) :
    (s.issue r).regs = s.regs ∨
      ∃ d, r = .authStart d ∧ (s.issue r).regs = s.regs.holdCrypto := by
  cases r with
  | authStart d => exact .inr ⟨d, rfl, rfl⟩
  | _ => exact .inl rfl

theorem issue_feWait (s : State) (r : FeReq) : (s.issue r).feWait = true := by
  rw [State.issue_frame]

/-- Settles O11: a turn that computes on asks with the registers untouched, and one that makes a
request writes at most CRYPTO_HELD. -/
theorem workingCopiesStayHiddenUntilFinish : Obligations.WorkingCopiesStayHiddenUntilFinish := by
  intro s t h ht
  obtain ⟨-, rfl⟩ | ⟨r, -, -, -, rfl⟩ | ⟨r, -, hr, -, rfl⟩ | ⟨v, -, -, -, rfl⟩ |
    ⟨i, -, -, -, hexec⟩ := engineStep_cases h
  · exact .inl rfl
  · exact .inl rfl
  · obtain hsame | ⟨d, rfl, hheld⟩ := issue_regs s r
    · exact .inl hsame
    · exact .inr ⟨d, hr, issue_feWait s _, hheld⟩
  · cases ht
  · exact .inl ((exec_computesTo s i t hexec).regs_of_exec ht)

/-- Settles O19: an answer is looked at only where none is to be discarded; a turn of the engine
makes no request while one is, and only the front-end writes `fe_discard`. -/
theorem lateAnswerIsAbsorbed : Obligations.LateAnswerIsAbsorbed := by
  intro s hd
  refine ⟨fun a => by rw [frontEnd, if_pos hd], fun t h => ?_⟩
  obtain ⟨-, rfl⟩ | ⟨r, -, -, -, rfl⟩ | ⟨r, -, -, hno, -⟩ | ⟨v, -, -, -, rfl⟩ |
    ⟨i, -, -, -, hexec⟩ := engineStep_cases h
  · exact ⟨hd, id⟩
  · exact ⟨hd, id⟩
  · simp [hd] at hno
  · exact ⟨hd, fun _ => rfl⟩
  · have hto := exec_computesTo s i t hexec
    exact ⟨hto.feDiscard.trans hd, hto.feWait⟩

end Sys2Proof.Machine

/-! PROOFS about the machine's invariant: what a turn of each command does to the session table
(44_iso14443_anticoll.md R182), the cause table (60_exceptions.md R214), the lock of CRYPTO_HELD
(45_iso14443_auth_rw.md R191) and the request bound (40_common.md R129). One walk over the commands
shows that a turn is safe for all four; the statements about the whole machine follow from it. -/

namespace Sys2Proof.Machine

open Sys2Proof.Safety

/-! ### Rows of the session table (R182) -/

theorem level_cases {l : BitVec 2} (h : l ≠ 0) : l = 1 ∨ l = 2 ∨ l = 3 := by
  revert l; decide

theorem levelOk_iff_of_ct {q : SeqUnit} (h : q.ct = true) :
    levelOk q = true ↔
      (q.level = 1 ∨ q.level = 2) ∧ q.uidValid = false ∧ q.uid.length = 3 * q.level.toNat := by
  simp [levelOk, h, and_assoc]

theorem levelOk_iff_of_no_ct {q : SeqUnit} (h : q.ct = false) :
    levelOk q = true ↔
      q.level ≠ 0 ∧ q.uidValid = true ∧ q.uid.length = 3 * q.level.toNat + 1 := by
  simp [levelOk, h, and_assoc]

/-- The UID lengths of a cascade stay allowed when the session ends (R182, R185). -/
theorem uidLenOk_of_levelOk {q : SeqUnit} (h : levelOk q = true) :
    uidLenOk q.uidValid q.uid.length = true := by
  cases hct : q.ct with
  | true =>
    obtain ⟨hl | hl, hvalid, hlen⟩ := (levelOk_iff_of_ct hct).mp h <;>
      simp [uidLenOk, hvalid, hlen, hl]
  | false =>
    obtain ⟨hl, hvalid, hlen⟩ := (levelOk_iff_of_no_ct hct).mp h
    obtain hl | hl | hl := level_cases hl <;> simp [uidLenOk, hvalid, hlen, hl]

/-- A complete UID means that the cascade is over (R175). -/
theorem ct_eq_false_of_uidValid {q : SeqUnit} (h : levelOk q = true) (hv : q.uidValid = true) :
    q.ct = false := by
  cases hct : q.ct with
  | false => rfl
  | true =>
    obtain ⟨-, hno, -⟩ := (levelOk_iff_of_ct hct).mp h
    simp [hv] at hno

theorem sessOk_iff_levelOk {q : SeqUnit} (h : q.state = .anticoll ∨ q.state = .selected) :
    sessOk q = true ↔ levelOk q = true := by
  obtain h | h := h <;> simp [sessOk, h]

theorem levelOk_of_sessOk {q : SeqUnit} (h : sessOk q = true)
    (hs : q.state = .anticoll ∨ q.state = .selected ∨ q.state = .authenticated) :
    levelOk q = true := by
  obtain hs | hs | hs := hs <;> simp_all [sessOk]

theorem uidLenOk_of_sessOk {q : SeqUnit} (h : sessOk q = true) :
    uidLenOk q.uidValid q.uid.length = true := by
  cases hs : q.state with
  | idle => simp_all [sessOk]
  | requested => simp_all [sessOk, uidLenOk]
  | anticoll => exact uidLenOk_of_levelOk (levelOk_of_sessOk h (.inl hs))
  | selected => exact uidLenOk_of_levelOk (levelOk_of_sessOk h (.inr (.inl hs)))
  | authenticated => exact uidLenOk_of_levelOk (levelOk_of_sessOk h (.inr (.inr hs)))

/-- The lock may be taken on every row (R191). -/
theorem sessOk_held {q : SeqUnit} (h : sessOk q = true) :
    sessOk { q with cryptoHeld := true } = true := by
  have hrow : levelOk { q with cryptoHeld := true } = levelOk q := rfl
  cases hs : q.state <;> simp_all [sessOk]

/-- A session that a finish may publish: a row of R182, with the lock where R201 allows it. -/
structure Publishable (q : SeqUnit) : Prop where
  row : sessOk q = true
  lock : heldOk q = true

theorem heldOk_of_free {q : SeqUnit} (h : q.cryptoHeld = false) : heldOk q = true := by
  simp [heldOk, h]

/-- `session_abort` keeps the UID, whose length must then be one of the IDLE rows. -/
theorem sessionAbort_publishable {q : SeqUnit} (h : uidLenOk q.uidValid q.uid.length = true) :
    Publishable q.sessionAbort :=
  ⟨by simp [sessOk, h], by simp [heldOk]⟩

theorem tagGone_publishable (q : SeqUnit) : Publishable q.tagGone :=
  ⟨by simp [sessOk, uidLenOk], by simp [heldOk]⟩

/-! ### The sessions of the cascade (R171 to R180) -/

/-- The session between a good anticollision reply at level `l` and its SELECT. -/
structure AfterAnticoll (q : SeqUnit) (l : BitVec 2) : Prop where
  state : q.state = .anticoll
  level : q.level = l
  row : levelOk q = true
  free : q.cryptoHeld = false

theorem AfterAnticoll.publishable {q : SeqUnit} {l : BitVec 2} (h : AfterAnticoll q l) :
    Publishable q :=
  ⟨(sessOk_iff_levelOk (.inl h.state)).mpr h.row, heldOk_of_free h.free⟩

/-- A SCAN goes to SELECT only while the cascade goes on (R180). -/
theorem selectWork_iff {i : Instr} {q : SeqUnit} {l : BitVec 2} :
    selectWork i q l = true ↔ AfterAnticoll q l ∧ (∀ m, i = .scan m → q.ct = true) := by
  constructor
  · intro h
    simp only [selectWork, Bool.and_eq_true, beq_iff_eq, Bool.not_eq_true'] at h
    obtain ⟨⟨⟨⟨hstate, hlevel⟩, hrow⟩, hfree⟩, hscan⟩ := h
    refine ⟨⟨hstate, hlevel, hrow, hfree⟩, ?_⟩
    rintro m rfl
    exact hscan
  · rintro ⟨⟨hstate, hlevel, hrow, hfree⟩, hscan⟩
    simp only [selectWork, hstate, hlevel, hrow, hfree, beq_self_eq_true, Bool.not_false,
      Bool.true_and]
    cases i with
    | scan m => exact hscan m rfl
    | _ => rfl

/-- The session while level `l`'s anticollision is under way. -/
structure DuringAnticoll (q : SeqUnit) (l : BitVec 2) : Prop where
  level : l ≠ 0
  open_ : q.uidValid = false
  length : q.uid.length = 3 * (l.toNat - 1)
  free : q.cryptoHeld = false

theorem workOk_anticoll_iff {i : Instr} {s : State} {p : Prim} {q : SeqUnit} {l : BitVec 2} :
    workOk i s (.anticoll l) p q = true ↔ DuringAnticoll q l := by
  simp only [workOk, Bool.and_eq_true, bne_iff_ne, ne_eq, Bool.not_eq_true', beq_iff_eq]
  exact ⟨fun ⟨⟨⟨h1, h2⟩, h3⟩, h4⟩ => ⟨h1, h2, h3, h4⟩, fun ⟨h1, h2, h3, h4⟩ =>
    ⟨⟨⟨h1, h2⟩, h3⟩, h4⟩⟩

/-- Writing a level's buffer touches the buffers only (R53). -/
theorem SeqUnit.setCl_eq (q : SeqUnit) (l : BitVec 2) (b : Vector Byte 5) :
    q.setCl l b = { q with
      cl1 := (q.setCl l b).cl1, cl2 := (q.setCl l b).cl2, cl3 := (q.setCl l b).cl3 } := by
  unfold SeqUnit.setCl
  split
  · rfl
  · split <;> rfl

/-- A reply with the marker below the last level (R175). -/
theorem SeqUnit.takeReply_of_marker {rx : List Byte} (h : byteAt rx 0 = cascadeTag) (q : SeqUnit)
    (l : BitVec 2) :
    q.takeReply l rx = { q.setCl l (five rx) with
      level := l, state := .anticoll, ct := true
      uid := q.uid ++ [byteAt rx 1, byteAt rx 2, byteAt rx 3] } := by
  rw [SeqUnit.takeReply, if_pos h, SeqUnit.setCl_eq]

/-- A reply that completes the UID (R175). -/
theorem SeqUnit.takeReply_of_no_marker {rx : List Byte} (h : byteAt rx 0 ≠ cascadeTag)
    (q : SeqUnit) (l : BitVec 2) :
    q.takeReply l rx = { q.setCl l (five rx) with
      level := l, state := .anticoll, ct := false, uidValid := true
      uid := q.uid ++ [byteAt rx 0, byteAt rx 1, byteAt rx 2, byteAt rx 3] } := by
  rw [SeqUnit.takeReply, if_neg h, SeqUnit.setCl_eq]

/-- A good reply closes the level: three bytes under the marker, four without it (R175). -/
theorem DuringAnticoll.takeReply {q : SeqUnit} {l : BitVec 2} (h : DuringAnticoll q l)
    {rx : List Byte} (hdepth : ¬(byteAt rx 0 = cascadeTag ∧ l = 3)) :
    AfterAnticoll (q.takeReply l rx) l := by
  have hpos : 1 ≤ l.toNat := by
    obtain rfl | rfl | rfl := level_cases h.level <;> decide
  by_cases hm : byteAt rx 0 = cascadeTag
  · rw [SeqUnit.takeReply_of_marker hm, SeqUnit.setCl_eq]
    have hl : l = 1 ∨ l = 2 := by
      have := level_cases h.level
      tauto
    refine ⟨rfl, rfl, (levelOk_iff_of_ct rfl).mpr ⟨hl, h.open_, ?_⟩, h.free⟩
    simp only [List.length_append, h.length, List.length_cons, List.length_nil]
    omega
  · rw [SeqUnit.takeReply_of_no_marker hm, SeqUnit.setCl_eq]
    refine ⟨rfl, rfl, (levelOk_iff_of_no_ct rfl).mpr ⟨h.level, rfl, ?_⟩, h.free⟩
    simp only [List.length_append, h.length, List.length_cons, List.length_nil]
    omega

/-- The level of a cascade that goes on is not the last. -/
theorem AfterAnticoll.level_of_ct {q : SeqUnit} {l : BitVec 2} (h : AfterAnticoll q l)
    (hct : q.ct = true) : l = 1 ∨ l = 2 := by
  obtain ⟨hl, -, -⟩ := (levelOk_iff_of_ct hct).mp h.row
  exact h.level ▸ hl

/-- The first level's anticollision starts with the UID cleared (R174). -/
theorem clearForAnticoll_one (q : SeqUnit) (h : q.cryptoHeld = false) :
    DuringAnticoll (q.clearForAnticoll 1) 1 :=
  ⟨by decide, rfl, rfl, h⟩

/-- A later level's anticollision goes on from the selected one's marker (R174). -/
theorem clearForAnticoll_next {q : SeqUnit} {l : BitVec 2} (hl : l = 1 ∨ l = 2)
    (hlevel : q.level = l) (hrow : levelOk q = true) (hct : q.ct = true)
    (hfree : q.cryptoHeld = false) : DuringAnticoll (q.clearForAnticoll (l + 1)) (l + 1) := by
  obtain ⟨-, hopen, hlen⟩ := (levelOk_iff_of_ct hct).mp hrow
  have hkeep : q.clearForAnticoll (l + 1) = q := by
    obtain rfl | rfl := hl <;> exact if_neg (by decide)
  rw [hkeep]
  refine ⟨?_, hopen, ?_, hfree⟩
  · obtain rfl | rfl := hl <;> decide
  · rw [hlen, hlevel]
    obtain rfl | rfl := hl <;> rfl

end Sys2Proof.Machine

/-! PROOFS about one turn of a command that meets the invariant: it stops nowhere, it finishes with
a row of the cause table and of the session table or prepares the request of its next position, it
leaves the lock of CRYPTO_HELD alone unless it is STOPCRYPTO's, and it spends no request of the
command's budget that it does not make. -/

namespace Sys2Proof.Machine

open Sys2Proof.Safety

/-! ### The alphabets (R79 to R86) -/

section Alphabets
variable {a : FeAns}

theorem accepts_crcStart {d : List Byte} (h : (FeReq.crcStart d).accepts a = true) :
    a = .busfail ∨ a = .ack := by
  cases a with
  | busfail | ack => simp
  | _ => cases h

theorem accepts_crcPoll (h : FeReq.crcPoll.accepts a = true) :
    a = .busfail ∨ a = .done ∨ a = .notdone := by
  cases a with
  | busfail | done | notdone => simp
  | _ => cases h

theorem accepts_crcRead (h : FeReq.crcRead.accepts a = true) :
    a = .busfail ∨ ∃ lo hi, a = .res lo hi := by
  cases a with
  | busfail | res => simp
  | _ => cases h

theorem accepts_trxStart {tx : List Byte} {n : BitVec 3}
    (h : (FeReq.trxStart tx n).accepts a = true) : a = .busfail ∨ a = .ack := by
  cases a with
  | busfail | ack => simp
  | _ => cases h

theorem accepts_trxPoll (h : FeReq.trxPoll.accepts a = true) :
    a = .busfail ∨ a = .noresp ∨ a = .fault ∨ a = .notdone ∨ a = .done := by
  cases a with
  | busfail | noresp | fault | notdone | done => simp
  | _ => cases h

theorem accepts_trxRead_cases (h : FeReq.trxRead.accepts a = true) :
    a = .busfail ∨ ∃ rx bits, a = .rx rx bits := by
  cases a with
  | busfail | rx => simp
  | _ => cases h

theorem accepts_authStart {d : List Byte} (h : (FeReq.authStart d).accepts a = true) :
    a = .busfail ∨ a = .ack := by
  cases a with
  | busfail | ack => simp
  | _ => cases h

theorem accepts_authPoll (h : FeReq.authPoll.accepts a = true) :
    a = .busfail ∨ a = .noresp ∨ a = .fault ∨ a = .notdone ∨ a = .done := by
  cases a with
  | busfail | noresp | fault | notdone | done => simp
  | _ => cases h

theorem accepts_cryptoStatus (h : FeReq.cryptoStatus.accepts a = true) :
    a = .busfail ∨ a = .off ∨ a = .on := by
  cases a with
  | busfail | off | on => simp
  | _ => cases h

theorem accepts_cryptoOff (h : FeReq.cryptoOff.accepts a = true) : a = .busfail ∨ a = .ack := by
  cases a with
  | busfail | ack => simp
  | _ => cases h

end Alphabets

/-! ### One answer of a helper sequence (R90 to R92) -/

section Helpers
variable {s : State} {w : Regs} {x : Stage}

@[simp] theorem crcStep_busfail {p : Prim} {fail : ErrClass → Cause → Out}
    {ret : BitVec 16 → Out} : crcStep s w x p .busfail fail ret = fail .transport .feBus := by
  cases p <;> rfl

@[simp] theorem trxStep_busfail {p : Prim} {ret : List Byte → Nat → Out} :
    trxStep s w x p .busfail ret = seqFail s w .transport .feBus := by
  cases p <;> rfl

@[simp] theorem authStep_busfail {p : Prim} {ret : Out} :
    authStep s w p .busfail ret = seqFail s w .transport .feBus := by
  cases p <;> rfl

/-- The answers that `crc16` can be given (R80 to R82). -/
theorem primAns_crc {p : Prim} {a : FeAns} (hx : helperOf x = .crc) (h : primAns x p a = true) :
    a = .busfail ∨ (p = .start ∧ a = .ack) ∨ (p = .poll ∧ a = .done) ∨ (p = .poll ∧ a = .notdone) ∨
      (p = .read ∧ ∃ lo hi, a = .res lo hi) := by
  simp only [primAns, hx] at h
  cases p with
  | start => obtain rfl | rfl := accepts_crcStart h <;> simp
  | poll => obtain rfl | rfl | rfl := accepts_crcPoll h <;> simp
  | read => obtain rfl | ⟨lo, hi, rfl⟩ := accepts_crcRead h <;> simp

/-- The answers that `trx` can be given (R83 to R85). -/
theorem primAns_trx {p : Prim} {a : FeAns} (hx : helperOf x = .trx) (h : primAns x p a = true) :
    a = .busfail ∨ (p = .start ∧ a = .ack) ∨ (p = .poll ∧ a = .noresp) ∨ (p = .poll ∧ a = .fault) ∨
      (p = .poll ∧ a = .notdone) ∨ (p = .poll ∧ a = .done) ∨
      (p = .read ∧ ∃ rx bits, a = .rx rx bits) := by
  simp only [primAns, hx] at h
  cases p with
  | start => obtain rfl | rfl := accepts_trxStart h <;> simp
  | poll => obtain rfl | rfl | rfl | rfl | rfl := accepts_trxPoll h <;> simp
  | read => obtain rfl | ⟨rx, bits, rfl⟩ := accepts_trxRead_cases h <;> simp

/-- The answers that `auth` can be given (R86). -/
theorem primAns_auth {p : Prim} {a : FeAns} (h : primAns .auth p a = true) :
    a = .busfail ∨ (p = .start ∧ a = .ack) ∨ (p = .poll ∧ a = .noresp) ∨ (p = .poll ∧ a = .fault) ∨
      (p = .poll ∧ a = .notdone) ∨ (p = .poll ∧ a = .done) ∨ (p = .read ∧ a = .off) ∨
      (p = .read ∧ a = .on) := by
  simp only [primAns, helperOf] at h
  cases p with
  | start => obtain rfl | rfl := accepts_authStart h <;> simp
  | poll => obtain rfl | rfl | rfl | rfl | rfl := accepts_authPoll h <;> simp
  | read => obtain rfl | rfl | rfl := accepts_cryptoStatus h <;> simp

end Helpers

/-! ### The request bound of a position (R129) -/

section Costs
variable {i : Instr} {s : State} {x : Stage}


/-- The rest of a SCAN from level `l` is that level's anticollision and what comes after it. -/
theorem scanCost_eq {m : ReqMode} {l : BitVec 2} (h : l ≠ 0) :
    scanCost s l = trxCost s + costAfter s (.scan m) (.anticoll l) := by
  obtain rfl | rfl | rfl := level_cases h
  · simp [scanCost, costAfter]; omega
  · simp [scanCost, costAfter]; omega
  · simp [scanCost, costAfter]

theorem helperLeft_crc_start (hx : helperOf x = .crc) : helperLeft s x .start = crcCost := by
  simp [helperLeft, hx, pollBound, crcCost]

theorem helperLeft_trx_start (hx : helperOf x = .trx) : helperLeft s x .start = trxCost s := by
  simp [helperLeft, hx, pollBound, trxCost]

/-- Entering any stage of a SCAN is paid for by the whole. -/
theorem scan_stage_cost_le {m : ReqMode} (h : stageOf (.scan m) x = true) :
    helperLeft s x .start + costAfter s (.scan m) x ≤ trxCost s + scanCost s 1 := by
  cases x with
  | request => rw [helperLeft_trx_start rfl]; rfl
  | anticoll l =>
    have hl : l ≠ 0 := by simpa [stageOf] using h
    rw [helperLeft_trx_start rfl, ← scanCost_eq hl]
    obtain rfl | rfl | rfl := level_cases hl
    · simp [scanCost]
    · simp [scanCost]; omega
    · simp [scanCost]
  | selectCrc l =>
    rw [helperLeft_crc_start rfl]
    obtain rfl | rfl : l = 1 ∨ l = 2 := by simpa [stageOf] using h
    all_goals simp [costAfter, scanCost, selectCost]; omega
  | selectTrx l =>
    rw [helperLeft_trx_start rfl]
    obtain rfl | rfl : l = 1 ∨ l = 2 := by simpa [stageOf] using h
    all_goals simp [costAfter, scanCost, selectCost]; omega
  | selectChk l =>
    rw [helperLeft_crc_start rfl]
    obtain rfl | rfl : l = 1 ∨ l = 2 := by simpa [stageOf] using h
    all_goals simp [costAfter, scanCost, selectCost]; omega
  | _ => cases h

/-- Entering any stage of a command is paid for by its whole cost. -/
theorem stage_cost_le (h : stageOf i x = true) :
    helperLeft s x .start + costAfter s i x ≤ cost s i := by
  cases i with
  | scan m => exact scan_stage_cost_le h
  | crcCalc | crcCheck =>
    cases x with
    | crc => exact (helperLeft_crc_start (x := .crc) rfl).le
    | _ => cases h
  | request m =>
    cases x with
    | request => exact (helperLeft_trx_start (x := .request) rfl).le
    | _ => cases h
  | anticoll l =>
    cases x with
    | anticoll k => exact (helperLeft_trx_start (x := .anticoll k) rfl).le
    | _ => cases h
  | select l =>
    cases x with
    | selectCrc k => rw [helperLeft_crc_start rfl]; simp only [costAfter, cost, selectCost]; omega
    | selectTrx k => rw [helperLeft_trx_start rfl]; simp only [costAfter, cost, selectCost]; omega
    | selectChk k => rw [helperLeft_crc_start rfl]; simp only [costAfter, cost, selectCost]; omega
    | _ => cases h
  | auth k a =>
    cases x with
    | auth => exact le_rfl
    | _ => cases h
  | stopCrypto =>
    cases x with
    | cryptoOff => exact le_rfl
    | _ => cases h
  | read c a =>
    cases x with
    | readCrc => rw [helperLeft_crc_start rfl]; simp only [costAfter, cost]; omega
    | readTrx => rw [helperLeft_trx_start rfl]; simp only [costAfter, cost]; omega
    | readChk => rw [helperLeft_crc_start rfl]; simp only [costAfter, cost]; omega
    | _ => cases h
  | writeClassic a =>
    cases x with
    | writeCrc => rw [helperLeft_crc_start rfl]; simp only [costAfter, cost]; omega
    | writeTrx => rw [helperLeft_trx_start rfl]; simp only [costAfter, cost]; omega
    | dataCrc => rw [helperLeft_crc_start rfl]; simp only [costAfter, cost]; omega
    | dataTrx => rw [helperLeft_trx_start rfl]; simp only [costAfter, cost]; omega
    | _ => cases h
  | writeNtag a =>
    cases x with
    | writeCrc => rw [helperLeft_crc_start rfl]; simp only [costAfter, cost]; omega
    | writeTrx => rw [helperLeft_trx_start rfl]; simp only [costAfter, cost]; omega
    | _ => cases h
  | _ => cases x <;> cases h

theorem helperLeft_pos (s : State) (x : Stage) (p : Prim) : 1 ≤ helperLeft s x p := by
  unfold helperLeft
  split <;> omega

end Costs

/-! ### Where a command computes (R120) -/

/-- Command `i` runs, and no answer is awaited: the engine's next internal computation is its. -/
structure Computing (i : Instr) (s : State) : Prop where
  pollMax : 1 ≤ s.params.fePollMax
  phase : s.phase = .exec
  word : decode s.cur = .ok i
  noWait : s.feWait = false

/-- The first computation of `i`, on a session of R182. -/
structure AtStart (i : Instr) (s : State) : Prop extends Computing i s where
  pos : s.pcSeq = .start
  session : Publishable s.regs.seq

/-- The computation of `i` on answer `a` at primitive `p` of its stage `x`. -/
structure InStage (i : Instr) (s : State) (x : Stage) (p : Prim) (a : FeAns) : Prop
    extends Computing i s where
  pos : s.pcSeq = .at x p
  ans : s.feAns = some a
  stage : stageOf i x = true
  alphabet : primAns x p a = true
  poll : pollOk s x p = true
  work : workOk i s x p s.working.seq = true
  held : heldAgrees x s.regs.seq s.working.seq = true

/-- A turn of `i` that keeps every promise of the invariant and of the request bound. -/
inductive SafeTurn (i : Instr) (s : State) : State → Prop
  | finishes {w : Regs} (k : Cause) (session : Publishable w.seq)
      (lock : i = .stopCrypto ∨ w.seq.cryptoHeld = s.regs.seq.cryptoHeld) :
      SafeTurn i s (s.finish w k.result k.errClass k)
  | asks {n : Nat} {bs : List Byte} {w : Regs} {x : Stage} {p : Prim} {r : FeReq}
      (stage : stageOf i x = true) (request : primReq x p r = true)
      (poll : pollOk (s.askWith n bs w x p r) x p = true)
      (work : workOk i (s.askWith n bs w x p r) x p w.seq = true)
      (held : heldAgrees x s.regs.seq w.seq = true)
      (cost : helperLeft (s.askWith n bs w x p r) x p + costAfter s i x ≤ budget s) :
      SafeTurn i s (s.askWith n bs w x p r)

/-- `o` is no stop, and its turn is safe. -/
def Runs (i : Instr) (s : State) (o : Out) : Prop := ∃ t, o = .next t ∧ SafeTurn i s t

theorem Runs.ite {i : Instr} {s : State} {c : Prop} [Decidable c] {o o' : Out}
    (h : c → Runs i s o) (h' : ¬c → Runs i s o') : Runs i s (if c then o else o') := by
  split
  · next hc => exact h hc
  · next hc => exact h' hc

theorem workOk_auth_iff {i : Instr} {s : State} {p : Prim} {q : SeqUnit} :
    workOk i s .auth p q = true ↔ q.state = .selected ∧ levelOk q = true ∧ q.uidValid = true ∧
      (q.cryptoHeld = true ∨ (p = .start ∧ issued s = false)) := by
  simp [workOk, and_assoc]

/-- Once the request of a position is made, what holds of the copies holds at the whole stage. -/
theorem workOk_of_issued {i : Instr} {s : State} {x : Stage} {p : Prim} {q : SeqUnit}
    (h : issued s = true) (hwork : workOk i s x p q = true) (t : State) (p' : Prim) :
    workOk i t x p' q = true := by
  cases x with
  | auth =>
    obtain ⟨hstate, hrow, hvalid, hheld | ⟨-, hno⟩⟩ := workOk_auth_iff.mp hwork
    · exact workOk_auth_iff.mpr ⟨hstate, hrow, hvalid, .inl hheld⟩
    · simp [h] at hno
  | _ => exact hwork

section Positions
variable {i : Instr} {s : State} {x : Stage} {p : Prim} {a : FeAns}

theorem AtStart.budget_eq (h : AtStart i s) : budget s = cost s i := by
  simp only [budget, h.phase, h.pos, h.word]

theorem InStage.issued_eq (h : InStage i s x p a) : issued s = true := by
  simp [issued, h.ans]

/-- The request of the position has been made. -/
theorem InStage.budget_eq (h : InStage i s x p a) :
    budget s = helperLeft s x p - 1 + costAfter s i x := by
  have hpos := helperLeft_pos s x p
  simp only [budget, h.phase, h.pos, h.word, h.issued_eq, if_true]
  omega

theorem InStage.costAfter_le_budget (h : InStage i s x p a) : costAfter s i x ≤ budget s := by
  rw [h.budget_eq]
  exact Nat.le_add_left _ _

/-- Only STOPCRYPTO's working copy of the lock differs from the register (R55, R193). -/
theorem InStage.lock (h : InStage i s x p a) :
    i = .stopCrypto ∨ s.working.seq.cryptoHeld = s.regs.seq.cryptoHeld := by
  have hheld := h.held
  simp only [heldAgrees, Bool.or_eq_true, beq_iff_eq] at hheld
  obtain rfl | hsame := hheld
  · have hx := h.stage
    cases i with
    | stopCrypto => exact .inl rfl
    | _ => cases hx
  · exact .inr hsame

theorem InStage.heldAgrees_of_eq (h : InStage i s x p a) (hi : i ≠ .stopCrypto) (x' : Stage)
    {q : SeqUnit} (hq : q.cryptoHeld = s.working.seq.cryptoHeld) :
    heldAgrees x' s.regs.seq q = true := by
  simp [heldAgrees, hq, h.lock.resolve_left hi]

theorem InStage.work_at (h : InStage i s x p a) (t : State) (p' : Prim) :
    workOk i t x p' s.working.seq = true := workOk_of_issued h.issued_eq h.work t p'

/-- Whatever the stage, the UID has a length that may outlive the session (R182). -/
theorem InStage.uidLenOk (h : InStage i s x p a) :
    uidLenOk s.working.seq.uidValid s.working.seq.uid.length = true := by
  have hwork := h.work
  cases x with
  | request => simp_all [workOk, Safety.uidLenOk]
  | anticoll l =>
    obtain ⟨hl, hopen, hlen, -⟩ := workOk_anticoll_iff.mp hwork
    obtain rfl | rfl | rfl := level_cases hl <;> simp [Safety.uidLenOk, hopen, hlen]
  | selectCrc l => exact uidLenOk_of_levelOk (selectWork_iff.mp hwork).1.row
  | selectTrx l => exact uidLenOk_of_levelOk (selectWork_iff.mp hwork).1.row
  | selectChk l => exact uidLenOk_of_levelOk (selectWork_iff.mp hwork).1.row
  | auth => exact uidLenOk_of_levelOk (by simp_all [workOk])
  | _ => exact uidLenOk_of_sessOk (by simp_all [workOk])

end Positions

/-! ### Ends of a safe turn -/

section Ends
variable {i : Instr} {s : State} {x : Stage} {p : Prim} {a : FeAns} {w : Regs}

theorem succeed_runs (session : Publishable w.seq)
    (lock : i = .stopCrypto ∨ w.seq.cryptoHeld = s.regs.seq.cryptoHeld) :
    Runs i s (succeed s w) := ⟨_, rfl, .finishes .none session lock⟩

/-- A failure reports a row of the cause table (R214). -/
theorem failWith_runs (k : Cause) (hk : k.result = .error) (session : Publishable w.seq)
    (lock : i = .stopCrypto ∨ w.seq.cryptoHeld = s.regs.seq.cryptoHeld) :
    Runs i s (failWith s w k.errClass k) := ⟨_, by rw [failWith_eq, hk], .finishes k session lock⟩

theorem AtStart.refuse_runs (h : AtStart i s) (k : Cause) (hk : k.result = .error) :
    Runs i s (refuse s k.errClass k) := failWith_runs k hk h.session (.inr rfl)

theorem AtStart.illegal_runs (h : AtStart i s) (v : Verdict) : Runs i s (illegal s v) := by
  cases v with
  | unknownOpcode => exact h.refuse_runs .cmdUnknownOpcode rfl
  | reservedBits => exact h.refuse_runs .cmdReservedBits rfl
  | badField => exact h.refuse_runs .cmdBadField rfl

theorem AtStart.succeed_runs (h : AtStart i s) (hw : w.seq = s.regs.seq) :
    Runs i s (succeed s w) :=
  Machine.succeed_runs (hw ▸ h.session) (.inr (by rw [hw]))

theorem InStage.seqFail_runs (h : InStage i s x p a) (k : Cause) (hk : k.result = .error) :
    Runs i s (seqFail s s.working k.errClass k) :=
  failWith_runs k hk (sessionAbort_publishable h.uidLenOk) h.lock

theorem InStage.notag_runs (h : InStage i s x p a) : Runs i s (notag s s.working) :=
  ⟨_, rfl, .finishes .noResponse (tagGone_publishable _) h.lock⟩

/-- The first computation of a command opens one of its exchanges. -/
theorem AtStart.asks (h : AtStart i s) {r : FeReq} (stage : stageOf i x = true)
    (request : primReq x .start r = true)
    (work : workOk i (s.ask w x .start r) x .start w.seq = true)
    (held : heldAgrees x s.regs.seq w.seq = true) :
    Runs i s (.next (s.ask w x .start r)) :=
  ⟨_, rfl, .asks (n := s.pollcnt) (bs := s.rxHeld) stage request rfl work held
    (h.budget_eq ▸ stage_cost_le (s := s) stage)⟩

/-- A later computation opens the exchange of the next stage, which the command has paid for. -/
theorem InStage.asks_stage (h : InStage i s x p a) (hi : i ≠ .stopCrypto) {bs : List Byte}
    {x' : Stage} {r : FeReq} (stage : stageOf i x' = true) (request : primReq x' .start r = true)
    (work : ∀ t, workOk i t x' .start w.seq = true)
    (held : w.seq.cryptoHeld = s.working.seq.cryptoHeld)
    (cost : helperLeft s x' .start + costAfter s i x' ≤ costAfter s i x) :
    Runs i s (.next ((s.holdRx bs).ask w x' .start r)) :=
  ⟨_, rfl, .asks (n := s.pollcnt) (bs := bs) stage request rfl (work _)
    (h.heldAgrees_of_eq hi x' held) (Nat.le_trans cost h.costAfter_le_budget)⟩

/-- The next primitive of the same exchange. -/
theorem InStage.asks_prim (h : InStage i s x p a) {n : Nat} {p' : Prim} {r : FeReq}
    (request : primReq x p' r = true) (poll : pollOk (s.setPoll n) x p' = true)
    (cost : helperLeft (s.setPoll n) x p' + 1 ≤ helperLeft s x p) :
    Runs i s (.next ((s.setPoll n).ask s.working x p' r)) := by
  refine ⟨_, rfl, .asks (n := n) (bs := s.rxHeld) h.stage request poll (h.work_at _ _) h.held ?_⟩
  have hbudget := h.budget_eq
  have hleft : helperLeft (s.askWith n s.rxHeld s.working x p' r) x p' =
    helperLeft (s.setPoll n) x p' := rfl
  omega

end Ends

/-! ### The polls of an exchange (R87) -/

section Polls
variable {i : Instr} {s : State} {x : Stage} {a : FeAns} {r : FeReq}

theorem InStage.pollBound_pos {p : Prim} (h : InStage i s x p a) : 1 ≤ pollBound s x := by
  have hmax := h.pollMax
  unfold pollBound
  split
  · decide
  · exact hmax
  · exact hmax
  · exact le_rfl

theorem helperLeft_start (hx : helperOf x ≠ .off) :
    helperLeft s x .start = pollBound s x + 2 := by
  unfold helperLeft; split <;> simp_all

theorem helperLeft_poll (hx : helperOf x ≠ .off) :
    helperLeft s x .poll = pollBound s x - s.pollcnt + 2 := by
  unfold helperLeft; split <;> simp_all

theorem helperLeft_read : helperLeft s x .read = 1 := by
  unfold helperLeft; split <;> simp_all

theorem pollOk_poll_iff : pollOk s x .poll = true ↔ 1 ≤ s.pollcnt ∧ s.pollcnt ≤ pollBound s x := by
  simp [pollOk]

theorem InStage.asks_first_poll (h : InStage i s x .start a) (hx : helperOf x ≠ .off)
    (request : primReq x .poll r = true) :
    Runs i s (.next ((s.setPoll 1).ask s.working x .poll r)) := by
  have hbound := h.pollBound_pos
  refine h.asks_prim request (pollOk_poll_iff.mpr ⟨le_rfl, hbound⟩) ?_
  rw [helperLeft_poll hx, helperLeft_start hx]
  simp only [State.setPoll_pollcnt]
  have : pollBound (s.setPoll 1) x = pollBound s x := rfl
  omega

theorem InStage.asks_next_poll (h : InStage i s x .poll a) (hx : helperOf x ≠ .off)
    (hne : s.pollcnt ≠ pollBound s x) (request : primReq x .poll r = true) :
    Runs i s (.next ((s.setPoll (s.pollcnt + 1)).ask s.working x .poll r)) := by
  obtain ⟨-, hle⟩ := pollOk_poll_iff.mp h.poll
  have hbound : pollBound (s.setPoll (s.pollcnt + 1)) x = pollBound s x := rfl
  refine h.asks_prim request (pollOk_poll_iff.mpr ⟨?_, ?_⟩) ?_
  · exact Nat.le_add_left 1 _
  · simp only [State.setPoll_pollcnt]
    omega
  · rw [helperLeft_poll hx, helperLeft_poll hx]
    simp only [State.setPoll_pollcnt]
    omega

theorem InStage.asks_read (h : InStage i s x .poll a) (hx : helperOf x ≠ .off)
    (request : primReq x .read r = true) : Runs i s (.next (s.ask s.working x .read r)) := by
  refine h.asks_prim (n := s.pollcnt) request rfl ?_
  rw [helperLeft_read, helperLeft_poll hx]
  omega

end Polls

/-! ### Helper sequences (R90 to R92) -/

section Helpers
variable {i : Instr} {s : State} {x : Stage} {p : Prim} {a : FeAns}

theorem crcStep_runs (h : InStage i s x p a) (hx : helperOf x = .crc)
    {fail : ErrClass → Cause → Out} {ret : BitVec 16 → Out}
    (hfail : ∀ k : Cause, k.result = .error → Runs i s (fail k.errClass k))
    (hret : ∀ c, Runs i s (ret c)) : Runs i s (crcStep s s.working x p a fail ret) := by
  have hoff : helperOf x ≠ .off := by simp [hx]
  obtain rfl | ⟨rfl, rfl⟩ | ⟨rfl, rfl⟩ | ⟨rfl, rfl⟩ | ⟨rfl, lo, hi, rfl⟩ :=
    primAns_crc hx h.alphabet
  · rw [crcStep_busfail]
    exact hfail .feBus rfl
  · exact h.asks_first_poll hoff (by simp [primReq, hx])
  · exact h.asks_read hoff (by simp [primReq, hx])
  · refine Runs.ite (fun _ => hfail .crcPollTimeout rfl) fun hne => ?_
    exact h.asks_next_poll hoff (by simpa [pollBound, hx] using hne) (by simp [primReq, hx])
  · exact hret _

theorem trxStep_runs (h : InStage i s x p a) (hx : helperOf x = .trx)
    {ret : List Byte → Nat → Out} (hret : ∀ rx bits, Runs i s (ret rx bits)) :
    Runs i s (trxStep s s.working x p a ret) := by
  have hoff : helperOf x ≠ .off := by simp [hx]
  obtain rfl | ⟨rfl, rfl⟩ | ⟨rfl, rfl⟩ | ⟨rfl, rfl⟩ | ⟨rfl, rfl⟩ | ⟨rfl, rfl⟩ |
    ⟨rfl, rx, bits, rfl⟩ := primAns_trx hx h.alphabet
  · rw [trxStep_busfail]
    exact h.seqFail_runs .feBus rfl
  · exact h.asks_first_poll hoff (by simp [primReq, hx])
  · exact h.notag_runs
  · exact h.seqFail_runs .feFault rfl
  · refine Runs.ite (fun _ => h.seqFail_runs .fePollTimeout rfl) fun hne => ?_
    exact h.asks_next_poll hoff (by simpa [pollBound, hx] using hne) (by simp [primReq, hx])
  · exact h.asks_read hoff (by simp [primReq, hx])
  · exact hret _ _

theorem authStep_runs (h : InStage i s .auth p a) {ret : Out} (hret : Runs i s ret) :
    Runs i s (authStep s s.working p a ret) := by
  have hoff : helperOf .auth ≠ .off := by simp [helperOf]
  obtain rfl | ⟨rfl, rfl⟩ | ⟨rfl, rfl⟩ | ⟨rfl, rfl⟩ | ⟨rfl, rfl⟩ | ⟨rfl, rfl⟩ | ⟨rfl, rfl⟩ |
    ⟨rfl, rfl⟩ := primAns_auth h.alphabet
  · rw [authStep_busfail]
    exact h.seqFail_runs .feBus rfl
  · exact h.asks_first_poll hoff rfl
  · exact h.notag_runs
  · exact h.seqFail_runs .feFault rfl
  · refine Runs.ite (fun _ => h.seqFail_runs .fePollTimeout rfl) fun hne => ?_
    exact h.asks_next_poll hoff hne rfl
  · exact h.asks_read hoff rfl
  · exact h.seqFail_runs .authFailed rfl
  · exact hret

end Helpers

/-! ### `do_request`, `do_anticoll` and `do_select` (R171, R174, R177) -/

section Sequences
variable {i : Instr} {s : State} {l : BitVec 2} {p : Prim} {a : FeAns} {ret : Regs → Out}

theorem requestStep_runs (h : InStage i s .request p a)
    (hret : ∀ q, Publishable q → q.cryptoHeld = false →
      q.cryptoHeld = s.working.seq.cryptoHeld → Runs i s (ret (s.working.setSeq q))) :
    Runs i s (requestStep s s.working p a ret) := by
  refine trxStep_runs h rfl fun rx bits => ?_
  refine Runs.ite (fun _ => ?_) fun _ => h.seqFail_runs .bitCount rfl
  have hwork := h.work
  simp only [workOk, Bool.and_eq_true, beq_iff_eq, Bool.not_eq_true'] at hwork
  obtain ⟨⟨⟨⟨hlevel, hct⟩, hopen⟩, hlen⟩, hfree⟩ := hwork
  exact hret _ ⟨by simp [sessOk, hlevel, hct, hopen, hlen], heldOk_of_free hfree⟩ hfree rfl

theorem anticollStep_runs (h : InStage i s (.anticoll l) p a)
    (hret : ∀ q, AfterAnticoll q l → q.cryptoHeld = s.working.seq.cryptoHeld →
      Runs i s (ret (s.working.setSeq q))) :
    Runs i s (anticollStep s s.working l p a ret) := by
  refine trxStep_runs h rfl fun rx bits => ?_
  refine Runs.ite (fun _ => h.seqFail_runs .respLength rfl) fun _ => ?_
  refine Runs.ite (fun _ => h.seqFail_runs .bccMismatch rfl) fun _ => ?_
  refine Runs.ite (fun _ => h.seqFail_runs .cascadeDepth rfl) fun hdepth => ?_
  have hduring := workOk_anticoll_iff.mp h.work
  have hafter := hduring.takeReply hdepth
  exact hret _ hafter (hafter.free.trans hduring.free.symm)

theorem selectCrcStep_runs (h : InStage i s (.selectCrc l) p a) (hi : i ≠ .stopCrypto)
    (stage : stageOf i (.selectTrx l) = true)
    (cost : trxCost s + costAfter s i (.selectTrx l) ≤ costAfter s i (.selectCrc l)) :
    Runs i s (selectCrcStep s s.working l p a) :=
  crcStep_runs h rfl h.seqFail_runs fun _ =>
    h.asks_stage (bs := s.rxHeld) hi stage rfl (fun _ => h.work) rfl
      ((helperLeft_trx_start (x := .selectTrx l) rfl).symm ▸ cost)

/-- A good SELECT reply ends the level in SELECTED (R177). -/
theorem selectTrxStep_runs (h : InStage i s (.selectTrx l) p a) (hi : i ≠ .stopCrypto)
    (stage : stageOf i (.selectChk l) = true)
    (cost : chkCost s + costAfter s i (.selectChk l) ≤ costAfter s i (.selectTrx l))
    (hret : ∀ sak, Runs i s (ret (s.working.setSeq (s.working.seq.takeSak sak)))) :
    Runs i s (selectTrxStep s s.working l p a ret) := by
  refine trxStep_runs h rfl fun rx bits => ?_
  refine Runs.ite (fun _ => h.seqFail_runs .bitCount rfl) fun _ => ?_
  refine Runs.ite (fun hchk => ?_) fun _ => hret _
  refine h.asks_stage hi stage rfl (fun _ => h.work) rfl ?_
  rw [helperLeft_crc_start rfl]
  simpa [chkCost, hchk] using cost

theorem selectChkStep_runs (h : InStage i s (.selectChk l) p a)
    (hret : ∀ sak, Runs i s (ret (s.working.setSeq (s.working.seq.takeSak sak)))) :
    Runs i s (selectChkStep s s.working l p a ret) :=
  crcStep_runs h rfl h.seqFail_runs fun _ =>
    Runs.ite (fun _ => hret _) fun _ => h.seqFail_runs .crcMismatch rfl

end Sequences

/-- The session after a good SELECT reply is that of the level, SELECTED (R177). -/
theorem takeSak_publishable {q : SeqUnit} {l : BitVec 2} (h : AfterAnticoll q l) (sak : Byte) :
    Publishable (q.takeSak sak) :=
  ⟨(sessOk_iff_levelOk (.inr rfl)).mpr h.row, heldOk_of_free h.free⟩

/-! ### First computations -/

section Starts
variable {i : Instr} {s : State}

/-- The guard, the result and the range failure of a pressure step (R138, R146) change no
session. -/
theorem AtStart.pressFinish_runs (h : AtStart i s) {w : Regs} (hw : w.seq = s.regs.seq)
    (r : Option Int) : Runs i s (pressFinish s w r) := by
  have hsession : Publishable w.seq := hw ▸ h.session
  have hlock : w.seq.cryptoHeld = s.regs.seq.cryptoHeld := by rw [hw]
  cases r with
  | none => exact failWith_runs .divZeroGuard rfl hsession (.inr hlock)
  | some v =>
    exact Runs.ite (fun _ => h.succeed_runs hw) fun _ =>
      failWith_runs .resultRange rfl hsession (.inr hlock)

/-- REQUEST and SCAN start alike (R171, R180). -/
theorem AtStart.requestCall_runs (h : AtStart i s) (stage : stageOf i .request = true)
    (m : ReqMode) :
    Runs i s (if s.regs.seq.cryptoHeld then refuse s .command .seqCryptoHeld
      else requestCall s s.regs m) :=
  Runs.ite (fun _ => h.refuse_runs .seqCryptoHeld rfl) fun hfree =>
    h.asks stage rfl (by simpa [workOk] using hfree) (by simp [heldAgrees])

theorem level_eq_one_or_succ {l : BitVec 2} (h : l ≠ 0) :
    l = 1 ∨ ∃ k : BitVec 2, (k = 1 ∨ k = 2) ∧ l = k + 1 := by
  revert l; decide

theorem anticollReady_during {q : SeqUnit} {l : BitVec 2} (hl : l ≠ 0) (hrow : sessOk q = true)
    (hready : anticollReady q l = true) (hfree : q.cryptoHeld = false) :
    DuringAnticoll (q.clearForAnticoll l) l := by
  obtain rfl | ⟨k, hk, rfl⟩ := level_eq_one_or_succ hl
  · exact clearForAnticoll_one q hfree
  · have hne : k + 1 ≠ 1 ∧ k + 1 - 1 = k := by
      obtain rfl | rfl := hk <;> decide
    simp only [anticollReady, hne, if_false, Bool.and_eq_true, beq_iff_eq] at hready
    obtain ⟨⟨hstate, hlevel⟩, hct⟩ := hready
    exact clearForAnticoll_next hk hlevel ((sessOk_iff_levelOk (.inr hstate)).mp hrow) hct hfree

theorem AtStart.execAnticoll_runs {l : BitVec 2} (h : AtStart (.anticoll l) s) :
    Runs (.anticoll l) s (execAnticoll l s) := by
  rw [execAnticoll, resume_start h.pos]
  refine Runs.ite (fun _ => h.illegal_runs _) fun hl => ?_
  refine Runs.ite (fun _ => h.refuse_runs .seqCryptoHeld rfl) fun hheld => ?_
  refine Runs.ite (fun hready => ?_) fun _ => h.refuse_runs .seqState rfl
  have hfree : s.regs.seq.cryptoHeld = false := by simpa using hheld
  have hduring := anticollReady_during hl h.session.row hready hfree
  exact h.asks (by simp [stageOf]) rfl (workOk_anticoll_iff.mpr hduring)
    (by simp [heldAgrees, hfree, hduring.free])

theorem AtStart.execSelect_runs {l : BitVec 2} (h : AtStart (.select l) s) :
    Runs (.select l) s (execSelect l s) := by
  rw [execSelect, resume_start h.pos]
  refine Runs.ite (fun _ => h.illegal_runs _) fun _ => ?_
  refine Runs.ite (fun _ => h.refuse_runs .seqCryptoHeld rfl) fun hheld => ?_
  refine Runs.ite (fun hready => ?_) fun _ => h.refuse_runs .seqState rfl
  simp only [selectReady, Bool.and_eq_true, beq_iff_eq] at hready
  obtain ⟨hstate, hlevel⟩ := hready
  have hafter : AfterAnticoll s.regs.seq l :=
    ⟨hstate, hlevel, (sessOk_iff_levelOk (.inl hstate)).mp h.session.row, by simpa using hheld⟩
  have hwork : selectWork (.select l) s.regs.seq l = true := selectWork_iff.mpr ⟨hafter, nofun⟩
  exact h.asks (by simp [stageOf]) rfl hwork (by simp [heldAgrees])

theorem AtStart.execAuth_runs {k : KeyType} {a : Byte} (h : AtStart (.auth k a) s) :
    Runs (.auth k a) s (execAuth k a s) := by
  rw [execAuth, resume_start h.pos]
  refine Runs.ite (fun _ => h.refuse_runs .seqCryptoHeld rfl) fun _ => ?_
  refine Runs.ite (fun hready => ?_) fun _ => h.refuse_runs .seqState rfl
  simp only [authReady, Bool.and_eq_true, beq_iff_eq] at hready
  obtain ⟨hstate, hvalid⟩ := hready
  have hrow := (sessOk_iff_levelOk (.inr hstate)).mp h.session.row
  exact h.asks rfl rfl (by simp [workOk, hstate, hvalid, hrow, issued, h.noWait])
    (by simp [heldAgrees])

theorem AtStart.execStopCrypto_runs (h : AtStart .stopCrypto s) :
    Runs .stopCrypto s (execStopCrypto s) := by
  rw [execStopCrypto, resume_start h.pos]
  exact h.asks rfl rfl (by simp [workOk, sessOk, uidLenOk_of_sessOk h.session.row]) rfl

/-- The accesses of an open session start on one of its two states (R195, R197, R199). -/
theorem AtStart.access_runs (h : AtStart i s) {x : Stage} {r : FeReq} {c : Bool}
    (hx : x = .readCrc ∨ x = .writeCrc) (stage : stageOf i x = true)
    (request : primReq x .start r = true)
    (hready : c = true → s.regs.seq.state = .selected ∨ s.regs.seq.state = .authenticated) :
    Runs i s (if c then .next (s.ask s.regs x .start r) else refuse s .command .seqState) := by
  refine Runs.ite (fun hc => ?_) fun _ => h.refuse_runs .seqState rfl
  refine h.asks stage request ?_ (by simp [heldAgrees])
  obtain rfl | rfl := hx <;> simpa [workOk, h.session.row, h.session.lock] using hready hc

theorem ntagReady_state {q : SeqUnit} (h : ntagReady q = true) :
    q.state = .selected ∨ q.state = .authenticated := by
  simp only [ntagReady, Bool.and_eq_true, Bool.or_eq_true, beq_iff_eq] at h
  exact h.1

theorem classicReady_state {q : SeqUnit} (h : classicReady q = true) :
    q.state = .selected ∨ q.state = .authenticated := .inr (beq_iff_eq.mp h)

theorem readReady_state {c : CardKind} {q : SeqUnit} (h : readReady c q = true) :
    q.state = .selected ∨ q.state = .authenticated := by
  cases c with
  | ntag => exact ntagReady_state h
  | classic => exact classicReady_state h

/-- The first computation of a command is safe. -/
theorem AtStart.exec_runs (h : AtStart i s) : Runs i s (exec i s) := by
  cases i with
  | nop => exact h.succeed_runs rfl
  | bmeCalCommit =>
    exact Runs.ite (fun _ => h.succeed_runs rfl) fun _ => h.refuse_runs .calIncomplete rfl
  | bmeCalClear => exact h.succeed_runs rfl
  | bmeT => exact Runs.ite (fun _ => h.succeed_runs rfl) fun _ => h.refuse_runs .calNotLoaded rfl
  | bmeP =>
    exact Runs.ite
      (fun _ => Runs.ite (fun _ => h.pressFinish_runs rfl _) fun _ => h.refuse_runs .tfineStale rfl)
      fun _ => h.refuse_runs .calNotLoaded rfl
  | bmeH =>
    exact Runs.ite
      (fun _ => Runs.ite (fun _ => h.succeed_runs rfl) fun _ => h.refuse_runs .tfineStale rfl)
      fun _ => h.refuse_runs .calNotLoaded rfl
  | bmeAll =>
    exact Runs.ite (fun _ => h.pressFinish_runs (w := bmeAllRegs s) rfl _) fun _ =>
      h.refuse_runs .calNotLoaded rfl
  | msCalCommit =>
    exact Runs.ite (fun _ => h.succeed_runs rfl) fun _ => h.refuse_runs .calIncomplete rfl
  | msCalClear => exact h.succeed_runs rfl
  | msComp =>
    exact Runs.ite
      (fun _ => Runs.ite (fun _ => h.succeed_runs rfl) fun _ =>
        failWith_runs .resultRange rfl h.session (.inr rfl))
      fun _ => h.refuse_runs .calNotLoaded rfl
  | crcCalc =>
    rw [exec, execCrcCalc, resume_start h.pos]
    exact Runs.ite (fun _ => h.refuse_runs .badLength rfl) fun _ =>
      h.asks rfl rfl (by simp [workOk, h.session.row, h.session.lock]) (by simp [heldAgrees])
  | crcCheck =>
    rw [exec, execCrcCheck, resume_start h.pos]
    exact Runs.ite (fun _ => h.refuse_runs .badLength rfl) fun _ =>
      h.asks rfl rfl (by simp [workOk, h.session.row, h.session.lock]) (by simp [heldAgrees])
  | request m =>
    rw [exec, execRequest, resume_start h.pos]
    exact h.requestCall_runs rfl m
  | anticoll l => exact h.execAnticoll_runs
  | select l => exact h.execSelect_runs
  | scan m =>
    rw [exec, execScan, resume_start h.pos]
    exact h.requestCall_runs rfl m
  | auth k a => exact h.execAuth_runs
  | stopCrypto => exact h.execStopCrypto_runs
  | read c a =>
    rw [exec, execRead, resume_start h.pos]
    exact h.access_runs (.inl rfl) rfl rfl readReady_state
  | writeClassic a =>
    rw [exec, execWriteClassic, resume_start h.pos]
    exact h.access_runs (.inr rfl) rfl rfl classicReady_state
  | writeNtag a =>
    rw [exec, execWriteNtag, resume_start h.pos]
    exact h.access_runs (.inr rfl) rfl rfl ntagReady_state

end Starts

/-! ### Computations on an answer -/

section Stages
variable {s : State} {x : Stage} {p : Prim} {a : FeAns}

/-- The session of a CRC command's copies may be published as it stands (R167). -/
theorem InStage.crc_publishable {i : Instr} (h : InStage i s .crc p a) :
    Publishable s.working.seq := by
  have hwork := h.work
  simp only [workOk, Bool.and_eq_true] at hwork
  exact ⟨hwork.1, hwork.2⟩

/-- So may that of an access to an open session. -/
theorem access_publishable {q : SeqUnit}
    (h : (sessOk q && heldOk q && (q.state == .selected || q.state == .authenticated)) = true) :
    Publishable q := by
  simp only [Bool.and_eq_true] at h
  exact ⟨h.1.1, h.1.2⟩

theorem InStage.execCrcCalc_runs (h : InStage .crcCalc s x p a) :
    Runs .crcCalc s (execCrcCalc s) := by
  rw [execCrcCalc, resume_at h.pos h.ans]
  have hstage := h.stage
  cases x with
  | crc =>
    exact crcStep_runs h rfl (fun k hk => failWith_runs k hk h.crc_publishable h.lock) fun _ =>
      succeed_runs h.crc_publishable h.lock
  | _ => cases hstage

theorem InStage.execCrcCheck_runs (h : InStage .crcCheck s x p a) :
    Runs .crcCheck s (execCrcCheck s) := by
  rw [execCrcCheck, resume_at h.pos h.ans]
  have hstage := h.stage
  cases x with
  | crc =>
    exact crcStep_runs h rfl (fun k hk => failWith_runs k hk h.crc_publishable h.lock) fun _ =>
      Runs.ite (fun _ => succeed_runs h.crc_publishable h.lock) fun _ =>
        failWith_runs .crcMismatch rfl h.crc_publishable h.lock
  | _ => cases hstage

theorem InStage.execRequest_runs {m : ReqMode} (h : InStage (.request m) s x p a) :
    Runs (.request m) s (execRequest m s) := by
  rw [execRequest, resume_at h.pos h.ans]
  have hstage := h.stage
  have hlock := h.lock.resolve_left nofun
  cases x with
  | request =>
    exact requestStep_runs h fun q hq _ hkeep => succeed_runs hq (.inr (hkeep.trans hlock))
  | _ => cases hstage

theorem InStage.execAnticoll_runs {l : BitVec 2} (h : InStage (.anticoll l) s x p a) :
    Runs (.anticoll l) s (execAnticoll l s) := by
  rw [execAnticoll, resume_at h.pos h.ans]
  have hstage := h.stage
  have hlock := h.lock.resolve_left nofun
  cases x with
  | anticoll k =>
    exact anticollStep_runs h fun q hq hkeep =>
      succeed_runs hq.publishable (.inr (hkeep.trans hlock))
  | _ => cases hstage

theorem InStage.execSelect_runs {l : BitVec 2} (h : InStage (.select l) s x p a) :
    Runs (.select l) s (execSelect l s) := by
  rw [execSelect, resume_at h.pos h.ans]
  have hstage := h.stage
  have hlock := h.lock.resolve_left nofun
  cases x with
  | selectCrc k => exact selectCrcStep_runs h nofun hstage (by simp [costAfter])
  | selectTrx k =>
    have hwork : selectWork (.select l) s.working.seq k = true := h.work
    obtain ⟨hafter, -⟩ := selectWork_iff.mp hwork
    exact selectTrxStep_runs h nofun hstage (by simp [costAfter]) fun sak =>
      succeed_runs (takeSak_publishable hafter sak) (.inr hlock)
  | selectChk k =>
    have hwork : selectWork (.select l) s.working.seq k = true := h.work
    obtain ⟨hafter, -⟩ := selectWork_iff.mp hwork
    exact selectChkStep_runs h fun sak =>
      succeed_runs (takeSak_publishable hafter sak) (.inr hlock)
  | _ => cases hstage

/-- After a SELECT of a cascade that goes on, SCAN opens the next level's anticollision (R180). -/
theorem InStage.scan_next_level {m : ReqMode} (h : InStage (.scan m) s x p a) {l : BitVec 2}
    (hwork : selectWork (.scan m) s.working.seq l = true)
    (hcost : scanCost s (l + 1) ≤ costAfter s (.scan m) x) (sak : Byte) :
    Runs (.scan m) s
      (anticollCall s (s.working.setSeq (s.working.seq.takeSak sak)) (l + 1)) := by
  obtain ⟨hafter, hct⟩ := selectWork_iff.mp hwork
  have hlevel := hafter.level_of_ct (hct m rfl)
  have hnext : l + 1 ≠ 0 := by
    obtain rfl | rfl := hlevel <;> decide
  have hduring : DuringAnticoll ((s.working.seq.takeSak sak).clearForAnticoll (l + 1)) (l + 1) :=
    clearForAnticoll_next hlevel hafter.level hafter.row (hct m rfl) hafter.free
  refine h.asks_stage (bs := s.rxHeld) nofun (by simpa [stageOf] using hnext) rfl
    (fun _ => workOk_anticoll_iff.mpr hduring) (hduring.free.trans hafter.free.symm) ?_
  rwa [helperLeft_trx_start rfl, ← scanCost_eq hnext]

theorem InStage.execScan_runs {m : ReqMode} (h : InStage (.scan m) s x p a) :
    Runs (.scan m) s (execScan m s) := by
  rw [execScan, resume_at h.pos h.ans]
  have hstage := h.stage
  have hlock := h.lock.resolve_left nofun
  cases x with
  | request =>
    refine requestStep_runs h fun q _ hfree hkeep => ?_
    have hduring := clearForAnticoll_one q hfree
    refine h.asks_stage (bs := s.rxHeld) nofun rfl rfl (fun _ => workOk_anticoll_iff.mpr hduring)
      (hduring.free.trans (hfree.symm.trans hkeep)) ?_
    rw [helperLeft_trx_start rfl, ← scanCost_eq (by decide)]
    exact le_rfl
  | anticoll l =>
    refine anticollStep_runs h fun q hafter hkeep => ?_
    refine Runs.ite (fun hct => ?_) fun _ =>
      succeed_runs hafter.publishable (.inr (hkeep.trans hlock))
    have hlevel := hafter.level_of_ct hct
    have hlast : l ≠ 3 := by
      obtain rfl | rfl := hlevel <;> decide
    have hwork : selectWork (.scan m) q l = true := selectWork_iff.mpr ⟨hafter, fun _ _ => hct⟩
    refine h.asks_stage (bs := s.rxHeld) nofun (by simpa [stageOf] using hlevel) rfl
      (fun _ => hwork) hkeep ?_
    rw [helperLeft_crc_start rfl]
    simp only [costAfter, if_neg hlast, selectCost]
    omega
  | selectCrc l => exact selectCrcStep_runs h nofun hstage (by simp only [costAfter]; omega)
  | selectTrx l =>
    exact selectTrxStep_runs h nofun hstage (by simp only [costAfter]; omega) fun sak =>
      h.scan_next_level h.work (by simp [costAfter]) sak
  | selectChk l =>
    exact selectChkStep_runs h fun sak => h.scan_next_level h.work le_rfl sak
  | _ => cases hstage

/-- AUTHENTICATED is reached with the lock held since the first request (R191, R192). -/
theorem InStage.execAuth_runs {k : KeyType} {b : Byte} (h : InStage (.auth k b) s x p a) :
    Runs (.auth k b) s (execAuth k b s) := by
  rw [execAuth, resume_at h.pos h.ans]
  have hstage := h.stage
  cases x with
  | auth =>
    refine authStep_runs h (succeed_runs ?_ h.lock)
    obtain ⟨-, hrow, hvalid, hlock⟩ := workOk_auth_iff.mp h.work
    have hheld : s.working.seq.cryptoHeld = true := by simpa [h.issued_eq] using hlock
    have hct := ct_eq_false_of_uidValid hrow hvalid
    have hrow' : levelOk s.working.seq.authenticate = true := hrow
    exact ⟨by simp [sessOk, hrow', hct, hheld], by simp [heldOk]⟩
  | _ => cases hstage

theorem InStage.execStopCrypto_runs (h : InStage .stopCrypto s x p a) :
    Runs .stopCrypto s (execStopCrypto s) := by
  rw [execStopCrypto, resume_at h.pos h.ans]
  have hstage := h.stage
  cases x with
  | cryptoOff =>
    have hwork := h.work
    simp only [workOk, Bool.and_eq_true, Bool.not_eq_true'] at hwork
    obtain ⟨⟨hrow, -⟩, hfree⟩ := hwork
    have hsession : Publishable s.working.seq := ⟨hrow, heldOk_of_free hfree⟩
    have halpha := h.alphabet
    cases p with
    | start =>
      obtain rfl | rfl := accepts_cryptoOff halpha
      · exact failWith_runs .feBus rfl hsession (.inl rfl)
      · exact succeed_runs hsession (.inl rfl)
    | _ => cases halpha
  | _ => cases hstage

/-- Storing the data of READ is no session write (R195). -/
theorem InStage.succeed_loadDbuf_runs {i : Instr} (h : InStage i s x p a)
    (session : Publishable s.working.seq) (rx : List Byte) :
    Runs i s (succeed s (s.working.loadDbuf rx)) :=
  succeed_runs (by rwa [Regs.loadDbuf_seq]) (by rw [Regs.loadDbuf_seq]; exact h.lock)

theorem InStage.execRead_runs {c : CardKind} {b : Byte} (h : InStage (.read c b) s x p a) :
    Runs (.read c b) s (execRead c b s) := by
  rw [execRead, resume_at h.pos h.ans]
  have hstage := h.stage
  cases x with
  | readCrc =>
    refine crcStep_runs h rfl h.seqFail_runs fun _ =>
      h.asks_stage (bs := s.rxHeld) nofun rfl rfl (fun _ => h.work) rfl ?_
    rw [helperLeft_trx_start rfl]
    rfl
  | readTrx =>
    refine trxStep_runs h rfl fun rx bits => ?_
    refine Runs.ite (fun _ => h.seqFail_runs .nak rfl) fun _ => ?_
    refine Runs.ite (fun _ => h.seqFail_runs .respLength rfl) fun _ => ?_
    refine Runs.ite (fun hchk => ?_) fun _ =>
      h.succeed_loadDbuf_runs (access_publishable h.work) _
    refine h.asks_stage nofun rfl rfl (fun _ => h.work) rfl ?_
    rw [helperLeft_crc_start rfl]
    simp [costAfter, chkCost, hchk]
  | readChk =>
    exact crcStep_runs h rfl h.seqFail_runs fun _ =>
      Runs.ite (fun _ => h.succeed_loadDbuf_runs (access_publishable h.work) _) fun _ =>
        h.seqFail_runs .crcMismatch rfl
  | _ => cases hstage

theorem InStage.execWriteClassic_runs {b : Byte} (h : InStage (.writeClassic b) s x p a) :
    Runs (.writeClassic b) s (execWriteClassic b s) := by
  rw [execWriteClassic, resume_at h.pos h.ans]
  have hstage := h.stage
  cases x with
  | writeCrc =>
    refine crcStep_runs h rfl h.seqFail_runs fun _ =>
      h.asks_stage (bs := s.rxHeld) nofun rfl rfl (fun _ => h.work) rfl ?_
    rw [helperLeft_trx_start rfl]
    simp only [costAfter]
    omega
  | writeTrx =>
    refine trxStep_runs h rfl fun rx bits => ?_
    refine Runs.ite (fun _ => ?_) fun _ => h.seqFail_runs .nak rfl
    refine h.asks_stage (bs := s.rxHeld) nofun rfl rfl (fun _ => h.work) rfl ?_
    rw [helperLeft_crc_start rfl]
    rfl
  | dataCrc =>
    refine crcStep_runs h rfl h.seqFail_runs fun _ =>
      h.asks_stage (bs := s.rxHeld) nofun rfl rfl (fun _ => h.work) rfl ?_
    rw [helperLeft_trx_start rfl]
    rfl
  | dataTrx =>
    exact trxStep_runs h rfl fun rx bits =>
      Runs.ite (fun _ => succeed_runs (access_publishable h.work) h.lock) fun _ =>
        h.seqFail_runs .nak rfl
  | _ => cases hstage

theorem InStage.execWriteNtag_runs {b : Byte} (h : InStage (.writeNtag b) s x p a) :
    Runs (.writeNtag b) s (execWriteNtag b s) := by
  rw [execWriteNtag, resume_at h.pos h.ans]
  have hstage := h.stage
  cases x with
  | writeCrc =>
    refine crcStep_runs h rfl h.seqFail_runs fun _ =>
      h.asks_stage (bs := s.rxHeld) nofun rfl rfl (fun _ => h.work) rfl ?_
    rw [helperLeft_trx_start rfl]
    rfl
  | writeTrx =>
    exact trxStep_runs h rfl fun rx bits =>
      Runs.ite (fun _ => succeed_runs (access_publishable h.work) h.lock) fun _ =>
        h.seqFail_runs .nak rfl
  | _ => cases hstage

/-- A later computation of a command is safe. -/
theorem InStage.exec_runs {i : Instr} (h : InStage i s x p a) : Runs i s (exec i s) := by
  cases i with
  | crcCalc => exact h.execCrcCalc_runs
  | crcCheck => exact h.execCrcCheck_runs
  | request m => exact h.execRequest_runs
  | anticoll l => exact h.execAnticoll_runs
  | select l => exact h.execSelect_runs
  | scan m => exact h.execScan_runs
  | auth k b => exact h.execAuth_runs
  | stopCrypto => exact h.execStopCrypto_runs
  | read c b => exact h.execRead_runs
  | writeClassic b => exact h.execWriteClassic_runs
  | writeNtag b => exact h.execWriteNtag_runs
  | _ =>
    have hstage := h.stage
    cases x <;> cases hstage

end Stages

end Sys2Proof.Machine

/-! PROOFS about the whole machine: every step of every agent keeps `Safety.Inv` and stops nowhere
that the environment is not to blame for, only STOPCRYPTO and a power-on take the lock away, and a
command against a front-end that answers finishes within its request bound. -/

namespace Sys2Proof.Machine

open Sys2Proof.Safety

/-! ### The engine's part of the invariant (R54) -/

section Engine
variable {s : State}

theorem engineOk_idle_iff (h : s.phase = .idle) :
    engineOk s = true ↔ s.work = none ∧ s.feReq = none ∧ s.feAns = none ∧ s.feWait = false ∧
      s.pollcnt = 0 ∧ heldOk s.regs.seq = true := by
  simp [engineOk, h, and_assoc]

theorem engineOk_start_iff (hp : s.phase = .exec) (h : s.pcSeq = .start) :
    engineOk s = true ↔ s.work = none ∧ s.feReq = none ∧ s.feAns = none ∧ s.feWait = false ∧
      heldOk s.regs.seq = true := by
  simp [engineOk, hp, posOk, h, and_assoc]

/-- What the invariant says at primitive `p` of stage `x`, with working copies `w`. -/
structure StageOk (i : Instr) (s : State) (x : Stage) (p : Prim) (w : Regs) : Prop where
  word : decode s.cur = .ok i
  copies : s.work = some w
  stage : stageOf i x = true
  flight : flightOk s x p = true
  poll : pollOk s x p = true
  work : workOk i s x p w.seq = true
  held : heldAgrees x s.regs.seq w.seq = true

theorem StageOk.engineOk {i : Instr} {x : Stage} {p : Prim} {w : Regs} (h : StageOk i s x p w)
    (hp : s.phase = .exec) (hpos : s.pcSeq = .at x p) : engineOk s = true := by
  simp [Safety.engineOk, hp, posOk, hpos, h.word, h.copies, h.stage, h.flight, h.poll, h.work,
    h.held]

theorem stageOk_of_engineOk {x : Stage} {p : Prim} (h : engineOk s = true) (hp : s.phase = .exec)
    (hpos : s.pcSeq = .at x p) : ∃ i w, StageOk i s x p w := by
  simp only [engineOk, hp, posOk, hpos] at h
  split at h
  · next i w hd hw =>
    simp only [Bool.and_eq_true] at h
    obtain ⟨⟨⟨⟨hstage, hflight⟩, hpoll⟩, hwork⟩, hheld⟩ := h
    exact ⟨i, w, hd, hw, hstage, hflight, hpoll, hwork, hheld⟩
  · cases h

/-- One request next or out, or one answer in hand (R77, R120). -/
theorem flightOk_iff {x : Stage} {p : Prim} :
    flightOk s x p = true ↔
      (∃ r, s.feReq = some r ∧ s.feAns = none ∧ primReq x p r = true) ∨
      (∃ a, s.feReq = none ∧ s.feAns = some a ∧ s.feWait = false ∧ primAns x p a = true) := by
  unfold flightOk
  cases hr : s.feReq <;> cases ha : s.feAns <;> simp

/-- The alphabet of a request is that of its position (R80 to R86). -/
theorem primAns_of_accepts {x : Stage} {p : Prim} {r : FeReq} {a : FeAns}
    (hr : primReq x p r = true) (ha : r.accepts a = true) : primAns x p a = true := by
  unfold primReq at hr
  split at hr <;> simp_all [primAns]
  · obtain rfl | rfl := accepts_crcStart ha <;> rfl
  · obtain rfl | rfl := accepts_trxStart ha <;> rfl
  · obtain rfl | rfl := accepts_authStart ha <;> rfl

/-- `fe.auth_start` is the first request of AUTH and of no other exchange (R92). -/
theorem eq_auth_start_of_primReq {x : Stage} {p : Prim} {d : List Byte}
    (h : primReq x p (.authStart d) = true) : x = .auth ∧ p = .start := by
  cases x <;> cases p <;> first | exact ⟨rfl, rfl⟩ | cases h

theorem eq_authStart_of_primReq {r : FeReq} (h : primReq .auth .start r = true) :
    ∃ d, r = .authStart d := by
  cases r with
  | authStart d => exact ⟨d, rfl⟩
  | _ => cases h

/-- A command that makes its first request or awaits an answer is past its start. -/
theorem stageOk_of_feReq {r : FeReq} (h : engineOk s = true) (hr : s.feReq = some r) :
    s.phase = .exec ∧ ∃ i x p w, s.pcSeq = .at x p ∧ StageOk i s x p w ∧ s.feAns = none ∧
      primReq x p r = true := by
  cases hp : s.phase with
  | idle =>
    obtain ⟨-, hno, -⟩ := (engineOk_idle_iff hp).mp h
    simp [hr] at hno
  | exec =>
    match hpos : s.pcSeq with
    | .start =>
      obtain ⟨-, hno, -⟩ := (engineOk_start_iff hp hpos).mp h
      simp [hr] at hno
    | .at x p =>
      obtain ⟨i, w, hstage⟩ := stageOk_of_engineOk h hp hpos
      obtain ⟨r', hr', ha, hreq⟩ | ⟨a, hno, -⟩ := flightOk_iff.mp hstage.flight
      · obtain rfl : r = r' := Option.some.inj (hr.symm.trans hr')
        exact ⟨rfl, i, x, p, w, rfl, hstage, ha, hreq⟩
      · simp [hr] at hno

/-- While an answer is awaited its request is out. -/
theorem exists_feReq_of_feWait (h : engineOk s = true) (hw : s.feWait = true) :
    ∃ r, s.feReq = some r := by
  cases hp : s.phase with
  | idle =>
    obtain ⟨-, -, -, hno, -⟩ := (engineOk_idle_iff hp).mp h
    simp [hw] at hno
  | exec =>
    match hpos : s.pcSeq with
    | .start =>
      obtain ⟨-, -, -, hno, -⟩ := (engineOk_start_iff hp hpos).mp h
      simp [hw] at hno
    | .at x p =>
      obtain ⟨i, w, hstage⟩ := stageOk_of_engineOk h hp hpos
      obtain ⟨r, hr, -⟩ | ⟨a, -, -, hno, -⟩ := flightOk_iff.mp hstage.flight
      · exact ⟨r, hr⟩
      · simp [hw] at hno

end Engine

/-! ### Turns of the engine -/

section Turns
variable {s t : State}

/-- A computation of the accepted command, in any state that meets the invariant, is safe. -/
theorem exec_runs_of_inv (h : Inv s) {i : Instr} (hp : s.phase = .exec) (hd : decode s.cur = .ok i)
    (hw : s.feWait = false) (hr : s.feReq = none) : Runs i s (exec i s) := by
  have hcomp : Computing i s := ⟨h.params, hp, hd, hw⟩
  match hpos : s.pcSeq with
  | .start =>
    obtain ⟨-, -, -, -, hheld⟩ := (engineOk_start_iff hp hpos).mp h.engine
    exact AtStart.exec_runs ⟨hcomp, hpos, h.session, hheld⟩
  | .at x p =>
    obtain ⟨j, w, hstage⟩ := stageOk_of_engineOk h.engine hp hpos
    obtain rfl : i = j := Except.ok.inj (hd.symm.trans hstage.word)
    obtain ⟨r, hsome, -⟩ | ⟨a, -, ha, -, halpha⟩ := flightOk_iff.mp hstage.flight
    · simp [hr] at hsome
    · have hcopies : s.working = w := State.working_some hstage.copies
      exact InStage.exec_runs (x := x) (p := p) (a := a)
        ⟨hcomp, hpos, ha, hstage.stage, halpha, hstage.poll, hcopies ▸ hstage.work,
          hcopies ▸ hstage.held⟩

theorem inv_finish (h : Inv s) {w : Regs} (k : Cause) (hw : Publishable w.seq) :
    Inv (s.finish w k.result k.errClass k) where
  params := h.params
  session := hw.row
  status := by simp [statusOk]
  oneDue := rfl
  engine := (engineOk_idle_iff rfl).mpr ⟨rfl, rfl, rfl, rfl, rfl, hw.lock⟩

/-- A safe turn keeps the invariant. -/
theorem SafeTurn.inv {i : Instr} (h : SafeTurn i s t) (hinv : Inv s) (hc : Computing i s) :
    Inv t := by
  cases h with
  | finishes k session lock => exact inv_finish hinv k session
  | @asks n bs w x p r stage request poll work held cost =>
    have hflight : flightOk (s.askWith n bs w x p r) x p = true :=
      flightOk_iff.mpr (.inl ⟨r, rfl, rfl, request⟩)
    have hstage : StageOk i (s.askWith n bs w x p r) x p w :=
      ⟨hc.word, rfl, stage, hflight, poll, work, held⟩
    exact ⟨hinv.params, hinv.session, hinv.status, hinv.oneDue, hstage.engineOk hc.phase rfl⟩

/-- Making a prepared request keeps the invariant; `fe.auth_start` takes the lock in the registers
and in the working copies alike (R191). -/
theorem inv_issue (h : Inv s) {r : FeReq} (hr : s.feReq = some r) (hd : s.feDiscard = false) :
    Inv (s.issue r) := by
  obtain ⟨hp, i, x, p, w, hpos, hstage, ha, hreq⟩ := stageOk_of_feReq h.engine hr
  by_cases hauth : ∃ d, r = .authStart d
  · obtain ⟨d, rfl⟩ := hauth
    obtain ⟨rfl, rfl⟩ := eq_auth_start_of_primReq hreq
    rw [State.issue_authStart]
    obtain ⟨hstate, hrow, hvalid, -⟩ := workOk_auth_iff.mp hstage.work
    have hissued : StageOk i { s with
        feWait := true, regs := s.regs.holdCrypto, work := s.work.map Regs.holdCrypto }
        .auth .start w.holdCrypto :=
      ⟨hstage.word, by simp [hstage.copies], hstage.stage,
        flightOk_iff.mpr (.inl ⟨_, hr, ha, hreq⟩), rfl,
        workOk_auth_iff.mpr ⟨hstate, hrow, hvalid, .inl rfl⟩, rfl⟩
    exact ⟨h.params, sessOk_held h.session, h.status, hd, hissued.engineOk hp hpos⟩
  · rw [State.issue_of_not_authStart s r fun d hd => hauth ⟨d, hd⟩]
    have hflight : flightOk { s with feWait := true } x p = true :=
      flightOk_iff.mpr (.inl ⟨r, hr, ha, hreq⟩)
    have hwork : workOk i { s with feWait := true } x p w.seq = true := by
      cases x with
      | auth =>
        obtain ⟨hstate, hrow, hvalid, hheld | ⟨rfl, -⟩⟩ := workOk_auth_iff.mp hstage.work
        · exact workOk_auth_iff.mpr ⟨hstate, hrow, hvalid, .inl hheld⟩
        · exact absurd (eq_authStart_of_primReq hreq) hauth
      | _ => exact hstage.work
    have hissued : StageOk i { s with feWait := true } x p w :=
      { hstage with flight := hflight, work := hwork }
    exact ⟨h.params, h.session, h.status, hd, hissued.engineOk hp hpos⟩

/-- What the engine's turn does in a state that meets the invariant. -/
inductive EngineTurn (s : State) : State → Prop
  | idles (h : s.engineEnabled = false ∨ s.feDiscard = true) : EngineTurn s s
  | issues {r : FeReq} (wait : s.feWait = false) (request : s.feReq = some r)
      (discard : s.feDiscard = false) : EngineTurn s (s.issue r)
  | refuses {v : Verdict} (phase : s.phase = .exec) (word : decode s.cur = .error v) :
      EngineTurn s (s.finish s.regs .error .command (verdictCause v))
  | computes {i : Instr} {t : State} (at_ : Computing i s) (request : s.feReq = none)
      (turn : SafeTurn i s t) : EngineTurn s t

/-- The engine's turn never stops (U9, R116). -/
theorem exists_engineTurn (h : Inv s) : ∃ t, engineStep s = .next t ∧ EngineTurn s t := by
  cases hen : s.engineEnabled with
  | false => exact ⟨s, by simp [engineStep, hen], .idles (.inl hen)⟩
  | true =>
    obtain ⟨hp, hw⟩ : s.phase = .exec ∧ s.feWait = false := by
      simpa [State.engineEnabled] using hen
    cases hr : s.feReq with
    | some r =>
      cases hd : s.feDiscard with
      | true => exact ⟨s, by simp [engineStep, hen, hr, hd], .idles (.inr hd)⟩
      | false => exact ⟨s.issue r, by simp [engineStep, hen, hr, hd], .issues hw hr hd⟩
    | none =>
      cases hd : decode s.cur with
      | error v => exact ⟨_, engineStep_illegal hp hw hr hd, .refuses hp hd⟩
      | ok i =>
        obtain ⟨t, ht, hturn⟩ := exec_runs_of_inv h hp hd hw hr
        exact ⟨t, (engineStep_runs hp hw hr hd).trans ht, .computes ⟨h.params, hp, hd, hw⟩ hr hturn⟩

theorem engineTurn_of_next (h : Inv s) (ht : engineStep s = .next t) : EngineTurn s t := by
  obtain ⟨t', ht', hturn⟩ := exists_engineTurn h
  obtain rfl : t = t' := Host.Outcome.next.inj (ht.symm.trans ht')
  exact hturn

/-- An illegal word is refused from the start, on the session it found (R102). -/
theorem publishable_of_illegal (h : Inv s) {v : Verdict} (hp : s.phase = .exec)
    (hd : decode s.cur = .error v) : Publishable s.regs.seq := by
  match hpos : s.pcSeq with
  | .start =>
    obtain ⟨-, -, -, -, hheld⟩ := (engineOk_start_iff hp hpos).mp h.engine
    exact ⟨h.session, hheld⟩
  | .at x p =>
    obtain ⟨i, w, hstage⟩ := stageOk_of_engineOk h.engine hp hpos
    cases hd.symm.trans hstage.word

theorem EngineTurn.inv (hturn : EngineTurn s t) (h : Inv s) : Inv t := by
  cases hturn with
  | idles => exact h
  | issues wait request discard => exact inv_issue h request discard
  | @refuses v phase word =>
    have hw := publishable_of_illegal h phase word
    cases v with
    | unknownOpcode => exact inv_finish h .cmdUnknownOpcode hw
    | reservedBits => exact inv_finish h .cmdReservedBits hw
    | badField => exact inv_finish h .cmdBadField hw
  | computes at_ request turn => exact turn.inv h at_

/-- The engine releases the lock at the finish of STOPCRYPTO alone (R191, R193). -/
theorem EngineTurn.releases (hturn : EngineTurn s t) (hs : s.regs.seq.cryptoHeld = true)
    (ht : t.regs.seq.cryptoHeld = false) :
    s.phase = .exec ∧ decode s.cur = .ok .stopCrypto ∧ t.phase = .idle := by
  cases hturn with
  | idles => simp [hs] at ht
  | @issues r wait request discard =>
    obtain hsame | ⟨d, -, hheld⟩ := issue_regs s r
    · simp [hsame, hs] at ht
    · simp [hheld] at ht
  | refuses => simp [hs] at ht
  | computes at_ request turn =>
    cases turn with
    | finishes k session lock =>
      obtain rfl | hkeep := lock
      · exact ⟨at_.phase, at_.word, rfl⟩
      · simp only [State.finish_regs] at ht
        simp [hkeep, hs] at ht
    | asks =>
      have hkeep : s.regs.seq.cryptoHeld = false := ht
      simp [hs] at hkeep

end Turns

/-! ### The environment's moves -/

section Environment
variable {s t : State}

/-- An answer is taken at the position that awaits it, or absorbed (R116, R236). -/
theorem inv_of_frontEnd (h : Inv s) {a : FeAns} (ht : frontEnd a s = .next t) : Inv t := by
  obtain ⟨-, rfl⟩ | ⟨r, hd, hw, hr, haccepts, rfl⟩ := frontEnd_cases ht
  · exact ⟨h.params, h.session, h.status, Bool.and_false _, h.engine⟩
  · obtain ⟨hp, i, x, p, w, hpos, hstage, -, hreq⟩ := stageOk_of_feReq h.engine hr
    have hflight : flightOk { s with feWait := false, feReq := none, feAns := some a } x p = true :=
      flightOk_iff.mpr (.inr ⟨a, rfl, rfl, rfl, primAns_of_accepts hreq haccepts⟩)
    have hissued : issued s = true := by simp [issued, hw]
    have hanswered : StageOk i { s with feWait := false, feReq := none, feAns := some a } x p w :=
      { hstage with flight := hflight, work := workOk_of_issued hissued hstage.work _ _ }
    exact ⟨h.params, h.session, h.status, rfl, hanswered.engineOk hp hpos⟩

theorem Regs.setOps_seq (w : Regs) (o : Operands) : (w.setOps o).seq = w.seq := rfl

/-- What a host write can reach: an operand behind its lock, which is no part of the session, one of
the four control registers, or nothing (R21, R57). -/
theorem writeReg_cases (s : State) (v : Word) (r : Reg) :
    (∃ f, (∀ w, (f w).seq = w.seq) ∧ s.writeReg v r = s.operandWrite f) ∨ s.writeReg v r = s ∨
    s.writeReg v r = s.writeCtrl v ∨ s.writeReg v r = s.writeCmd v ∨
    s.writeReg v r = s.writeStatus v ∨ s.writeReg v r = s.writeIrq v := by
  cases r with
  | bme k => exact .inl ⟨fun w => w.writeBme k v, fun _ => rfl, rfl⟩
  | rawT => exact .inl ⟨fun w => w.writeRawT v, fun _ => rfl, rfl⟩
  | ms i => exact .inl ⟨fun w => w.writeMs i v, fun _ => rfl, rfl⟩
  | rawP | rawH | d1 | d2 | len | authUid | keyLo | keyHi | dbuf =>
    exact .inl ⟨fun w => w.setOps _, fun w => Regs.setOps_seq w _, rfl⟩
  | ctrl => exact .inr (.inr (.inl rfl))
  | cmd => exact .inr (.inr (.inr (.inl rfl)))
  | status => exact .inr (.inr (.inr (.inr (.inl rfl))))
  | irq => exact .inr (.inr (.inr (.inr (.inr rfl))))
  | _ => exact .inr (.inl rfl)

theorem busy_eq_false_iff : s.busy = false ↔ s.phase = .idle := by
  cases h : s.phase <;> simp [State.busy, h]

theorem inv_operandWrite (h : Inv s) {f : Regs → Regs} (hf : ∀ w, (f w).seq = w.seq) :
    Inv (s.operandWrite f) := by
  obtain ⟨-, hw⟩ | ⟨hidle, hw⟩ := operandWrite_cases s f
  · rw [hw]
    exact ⟨h.params, h.session, h.status, h.oneDue, h.engine⟩
  · rw [hw]
    have hp := busy_eq_false_iff.mp hidle
    obtain ⟨hwork, hreq, hans, hwait, hpoll, hheld⟩ := (engineOk_idle_iff hp).mp h.engine
    have hengine : engineOk { s with regs := f s.regs } = true :=
      (engineOk_idle_iff (s := { s with regs := f s.regs }) hp).mpr
        ⟨hwork, hreq, hans, hwait, hpoll, by simpa only [hf] using hheld⟩
    exact ⟨h.params, by simpa only [hf] using h.session, h.status, h.oneDue, hengine⟩

/-- The accept of an idle block stands at the start with nothing in flight (R117). -/
theorem inv_accept (h : Inv s) (hp : s.phase = .idle) (v : Word) : Inv (s.accept v) := by
  obtain ⟨hwork, hreq, hans, hwait, -, hheld⟩ := (engineOk_idle_iff hp).mp h.engine
  exact ⟨h.params, h.session, h.status, h.oneDue,
    (engineOk_start_iff rfl rfl).mpr ⟨hwork, hreq, hans, hwait, hheld⟩⟩

theorem inv_powerOnReset (h : Inv s) : Inv s.powerOnReset :=
  ⟨h.params, rfl, rfl, rfl, rfl⟩

/-- The soft reset keeps the lock, on a session that is IDLE (R236). -/
theorem inv_softReset (h : Inv s) : Inv s.softReset :=
  ⟨h.params, rfl, rfl, rfl,
    (engineOk_idle_iff rfl).mpr ⟨rfl, rfl, rfl, rfl, rfl, by simp [heldOk, SeqUnit.reset]⟩⟩

theorem inv_writeCtrl (h : Inv s) (v : Word) : Inv (s.writeCtrl v) := by
  unfold State.writeCtrl
  split
  · exact inv_softReset h
  · exact h

theorem inv_writeReg (h : Inv s) (v : Word) (r : Reg) : Inv (s.writeReg v r) := by
  obtain ⟨f, hf, hw⟩ | hw | hw | hw | hw | hw := writeReg_cases s v r <;> rw [hw]
  · exact inv_operandWrite h hf
  · exact h
  · exact inv_writeCtrl h v
  · obtain ⟨-, hc⟩ | ⟨hidle, hc⟩ := writeCmd_cases s v <;> rw [hc]
    · exact ⟨h.params, h.session, h.status, h.oneDue, h.engine⟩
    · exact inv_accept h (busy_eq_false_iff.mp hidle) v
  · exact ⟨h.params, h.session, h.status, h.oneDue, h.engine⟩
  · exact ⟨h.params, h.session, h.status, h.oneDue, h.engine⟩

/-- No host write clears the lock: a soft reset keeps it (R236). -/
theorem writeReg_cryptoHeld (s : State) (v : Word) (r : Reg) :
    (s.writeReg v r).regs.seq.cryptoHeld = s.regs.seq.cryptoHeld := by
  obtain ⟨f, hf, hw⟩ | hw | hw | hw | hw | hw := writeReg_cases s v r <;> rw [hw]
  · obtain ⟨-, ho⟩ | ⟨-, ho⟩ := operandWrite_cases s f <;> rw [ho]
    simp only [hf]
  · unfold State.writeCtrl
    split <;> rfl
  · obtain ⟨-, hc⟩ | ⟨-, hc⟩ := writeCmd_cases s v <;> rw [hc] <;> rfl
  · rfl
  · rfl

theorem writeWindow_cases (s : State) (off : Nat) (v : Word) :
    s.writeWindow off v = s ∨ ∃ r, s.writeWindow off v = s.writeReg v r := by
  unfold State.writeWindow
  split
  · exact .inr ⟨_, rfl⟩
  · exact .inl rfl

end Environment

/-! ### Steps (R116) -/

section Steps
variable {s t : State}

/-- The list of moves is no part of the block. -/
theorem inv_with_env (h : Inv s) (rest : List Event) : Inv { s with env := rest } :=
  ⟨h.params, h.session, h.status, h.oneDue, h.engine⟩

theorem inv_of_act (h : Inv s) {e : Event} (ht : act e s = .next t) : Inv t := by
  cases e with
  | engine => exact (engineTurn_of_next h ht).inv h
  | hostRead off bytes =>
    obtain ⟨-, rfl⟩ := hostRead_cases ht
    exact ⟨h.params, h.session, h.status, h.oneDue, h.engine⟩
  | hostWrite off bytes v =>
    obtain ⟨-, rfl⟩ := hostWrite_cases ht
    obtain hw | ⟨r, hw⟩ := writeWindow_cases s off v <;> rw [hw]
    · exact h
    · exact inv_writeReg h v r
  | answer a => exact inv_of_frontEnd h ht
  | powerOn =>
    cases ht
    exact inv_powerOnReset h

/-- Settles O56, agent by agent: the engine's turn is safe, an answer is its position's, and the
host reaches no session register but by a reset. -/
theorem everyStepKeepsTheInvariant : Obligations.EveryStepKeepsTheInvariant := by
  intro s t h hstep
  obtain ⟨-, ht⟩ | ⟨e, rest, -, ht⟩ := step_cases hstep
  · exact (engineTurn_of_next h ht).inv h
  · exact inv_of_act (inv_with_env h rest) ht

/-- Settles O55: the reset state is idle with every field of the invariant at 0. -/
theorem resetMeetsTheInvariant : Obligations.ResetMeetsTheInvariant :=
  ⟨by decide, rfl, rfl, rfl, rfl⟩

theorem frontEnd_not_fault (a : FeAns) (s : State) (f : Fault) : frontEnd a s ≠ .fault f := by
  unfold frontEnd
  split
  · nofun
  · split
    · split <;> nofun
    · nofun

theorem frontEnd_refusal {a : FeAns} {r : Refusal} (h : frontEnd a s = .refused r) :
    r = .answerNotAwaited ∨ r = .answerOutsideAlphabet := by
  unfold frontEnd at h
  split at h
  · cases h
  · split at h
    · split at h <;> cases h
      exact .inr rfl
    · cases h
      exact .inl rfl

theorem hostRead_stops {off bytes : Nat} :
    (∀ f, hostRead off bytes s ≠ .fault f) ∧
      ∀ r, hostRead off bytes s = .refused r → r = .hostAccess := by
  unfold hostRead
  split
  · exact ⟨nofun, nofun⟩
  · exact ⟨nofun, fun r h => (Host.Outcome.refused.inj h).symm⟩

theorem hostWrite_stops {off bytes : Nat} {v : Word} :
    (∀ f, hostWrite off bytes v s ≠ .fault f) ∧
      ∀ r, hostWrite off bytes v s = .refused r → r = .hostAccess := by
  unfold hostWrite
  split
  · exact ⟨nofun, nofun⟩
  · exact ⟨nofun, fun r h => (Host.Outcome.refused.inj h).symm⟩

/-- Settles O57: the engine's turn always answers a next state, so what stops is a move of the host
or of the front-end. -/
theorem noStepFaults : Obligations.NoStepFaults := by
  intro s h
  cases henv : s.env with
  | nil =>
    obtain ⟨t, ht, -⟩ := exists_engineTurn h
    have hstep : step s = .next t := by simp only [step, henv, ht]
    simp [hstep]
  | cons e rest =>
    have hstep : step s = act e { s with env := rest } := by simp only [step, henv]
    rw [hstep]
    cases e with
    | engine =>
      obtain ⟨t, ht, -⟩ := exists_engineTurn (inv_with_env h rest)
      simp [act, ht]
    | hostRead off bytes =>
      obtain ⟨hfault, hrefused⟩ := hostRead_stops (s := { s with env := rest })
      exact ⟨hfault, fun r hr => .inl ⟨off, bytes, rest, rfl, hrefused r hr⟩⟩
    | hostWrite off bytes v =>
      obtain ⟨hfault, hrefused⟩ := hostWrite_stops (s := { s with env := rest })
      exact ⟨hfault, fun r hr => .inr (.inl ⟨off, bytes, v, rest, rfl, hrefused r hr⟩)⟩
    | answer a =>
      exact ⟨frontEnd_not_fault a _, fun r hr => .inr (.inr ⟨a, rest, rfl, frontEnd_refusal hr⟩)⟩
    | powerOn => exact ⟨nofun, nofun⟩

/-- Settles O59: among the moves only the engine's can clear the lock without a reset, and it does
at STOPCRYPTO's finish. -/
theorem onlyStopCryptoReleasesTheLock : Obligations.OnlyStopCryptoReleasesTheLock := by
  intro s t h hstep hs ht
  obtain ⟨-, hnext⟩ | ⟨e, rest, henv, hnext⟩ := step_cases hstep
  · exact .inr ((engineTurn_of_next h hnext).releases hs ht)
  · cases e with
    | engine => exact .inr ((engineTurn_of_next (inv_with_env h rest) hnext).releases hs ht)
    | hostRead off bytes =>
      obtain ⟨-, rfl⟩ := hostRead_cases hnext
      exact absurd (hs.symm.trans ht) Bool.noConfusion
    | hostWrite off bytes v =>
      obtain ⟨-, rfl⟩ := hostWrite_cases hnext
      obtain hw | ⟨r, hw⟩ := writeWindow_cases { s with env := rest } off v
      · rw [hw] at ht
        exact absurd (hs.symm.trans ht) Bool.noConfusion
      · rw [hw, writeReg_cryptoHeld] at ht
        exact absurd (hs.symm.trans ht) Bool.noConfusion
    | answer a =>
      obtain ⟨-, rfl⟩ | ⟨r, -, -, -, -, rfl⟩ := frontEnd_cases hnext <;>
        exact absurd (hs.symm.trans ht) Bool.noConfusion
    | powerOn => exact .inl ⟨rest, henv⟩

end Steps

end Sys2Proof.Machine

/-! PROOFS about the length of a command (40_common.md R129): against a front-end that answers every
request, each step of the block alone comes nearer to the finish. -/

namespace Sys2Proof.Machine

open Sys2Proof.Safety

/-! ### The bound on a command's requests -/

section Bound
variable {s : State}

theorem helperLeft_le_start (s : State) (x : Stage) (p : Prim) :
    helperLeft s x p ≤ helperLeft s x .start := by
  unfold helperLeft
  cases helperOf x <;> cases p <;> simp only <;> omega

theorem cost_le (h : 1 ≤ s.params.fePollMax) (i : Instr) :
    cost s i ≤ 6 * s.params.fePollMax + 526 + (if s.params.checkRxCrc then 514 else 0) := by
  have hcrc : crcCost = 257 := rfl
  have htrx : trxCost s = s.params.fePollMax + 2 := rfl
  have hchk : 2 * chkCost s = if s.params.checkRxCrc then 514 else 0 := by
    unfold chkCost; split <;> rfl
  cases i with
  | scan m =>
    have hscan : scanCost s 1 = 3 * trxCost s + 2 * selectCost s := rfl
    simp only [cost, hscan, selectCost]
    omega
  | select l => simp only [cost, selectCost]; omega
  | _ => simp only [cost]; omega

/-- No position leaves more requests than the whole command has (R129). -/
theorem budget_le_cost (h : Inv s) {i : Instr} (hp : s.phase = .exec)
    (hd : decode s.cur = .ok i) : budget s ≤ cost s i := by
  match hpos : s.pcSeq with
  | .start => simp only [budget, hp, hpos, hd, le_refl]
  | .at x p =>
    obtain ⟨j, w, hstage⟩ := stageOk_of_engineOk h.engine hp hpos
    obtain rfl : i = j := Except.ok.inj (hd.symm.trans hstage.word)
    have hleft := helperLeft_le_start s x p
    have hcost := stage_cost_le (s := s) hstage.stage
    simp only [budget, hp, hpos, hd]
    omega

theorem budget_le (h : Inv s) (hp : s.phase = .exec) :
    budget s ≤ 6 * s.params.fePollMax + 526 + (if s.params.checkRxCrc then 514 else 0) := by
  cases hd : decode s.cur with
  | ok i => exact (budget_le_cost h hp hd).trans (cost_le h.params i)
  | error v =>
    have hzero : budget s = 0 := by
      cases hpos : s.pcSeq <;> simp only [budget, hp, hpos, hd]
    omega

end Bound

/-! ### Each step comes nearer to the finish -/

/-- How many steps of the block alone a running command can still take: three for each request, less
those of the current one that lie behind it. -/
def stepsLeft (s : State) : Nat :=
  if s.feWait then 3 * budget s + 2 else if s.feReq.isSome then 3 * budget s else 3 * budget s + 1

section Progress
variable {s t : State}

theorem stepsLeft_le (s : State) : stepsLeft s ≤ 3 * budget s + 2 := by
  unfold stepsLeft
  split
  · exact le_rfl
  · split <;> omega

/-- The budget counts a request until it is made. -/
theorem budget_issue (h : Inv s) {r : FeReq} (hw : s.feWait = false) (hr : s.feReq = some r) :
    budget (s.issue r) + 1 = budget s := by
  obtain ⟨hp, i, x, p, w, hpos, hstage, ha, -⟩ := stageOk_of_feReq h.engine hr
  have hleft := helperLeft_pos s x p
  have hmade : budget (s.issue r) = helperLeft s x p + costAfter s i x - 1 := by
    rw [State.issue_frame]
    simp only [budget, hp, hpos, hstage.word, issued, Bool.true_or, if_true]
    rfl
  have hnext : budget s = helperLeft s x p + costAfter s i x := by
    simp [budget, hp, hpos, hstage.word, issued, hw, ha]
  omega

theorem stepsLeft_pos (h : Inv s) : 1 ≤ stepsLeft s := by
  unfold stepsLeft
  split
  · exact Nat.le_add_left _ _
  · next hw =>
    split
    · next hsome =>
      obtain ⟨r, hr⟩ := Option.isSome_iff_exists.mp hsome
      have := budget_issue h (Bool.eq_false_of_not_eq_true hw) hr
      omega
    · exact Nat.le_add_left _ _

theorem budget_asks {i : Instr} (hc : Computing i s) {n : Nat} {bs : List Byte} {w : Regs}
    {x : Stage} {p : Prim} {r : FeReq} :
    budget (s.askWith n bs w x p r) =
      helperLeft (s.askWith n bs w x p r) x p + costAfter s i x := by
  have hissued : issued (s.askWith n bs w x p r) = false := by
    simp [issued, State.askWith, hc.noWait]
  have hphase : (s.askWith n bs w x p r).phase = .exec := hc.phase
  have hword : decode (s.askWith n bs w x p r).cur = .ok i := hc.word
  have hpos : (s.askWith n bs w x p r).pcSeq = .at x p := rfl
  simp only [budget, hphase, hpos, hword, hissued]
  rfl

/-- The engine's turn of a running command with no late answer due finishes it or comes nearer. -/
theorem EngineTurn.progress (hturn : EngineTurn s t) (h : Inv s) (hp : s.phase = .exec)
    (hw : s.feWait = false) (hd : s.feDiscard = false) :
    t.phase = .idle ∨ (t.phase = .exec ∧ t.feDiscard = false ∧ stepsLeft t < stepsLeft s) := by
  cases hturn with
  | idles hidle => simp [State.engineEnabled, hp, hw, hd] at hidle
  | @issues r wait request discard =>
    have hbudget := budget_issue h hw request
    have hwait := issue_feWait s r
    refine .inr ⟨?_, ?_, ?_⟩
    · rw [State.issue_frame]; exact hp
    · rw [State.issue_frame]; exact hd
    · simp only [stepsLeft, hwait, hw, request, if_true, Option.isSome_some, Bool.false_eq_true,
        if_false]
      omega
  | refuses => exact .inl rfl
  | computes at_ request turn =>
    cases turn with
    | finishes => exact .inl rfl
    | @asks n bs w x p r stage req poll work held cost =>
      refine .inr ⟨hp, hd, ?_⟩
      have hbudget := budget_asks at_ (n := n) (bs := bs) (w := w) (x := x) (p := p) (r := r)
      have hwait : (s.askWith n bs w x p r).feWait = false := hw
      have hreq : (s.askWith n bs w x p r).feReq.isSome = true := rfl
      simp only [stepsLeft, hwait, hreq, hw, request, if_true, Option.isSome_none,
        Bool.false_eq_true, if_false]
      omega

/-- An answer from the alphabet of the request that is out brings the command nearer. -/
theorem frontEnd_progress (h : Inv s) {r : FeReq} {a : FeAns} (hw : s.feWait = true)
    (hd : s.feDiscard = false) (hr : s.feReq = some r) (ha : r.accepts a = true) :
    ∃ t, frontEnd a s = .next t ∧ Inv t ∧ t.phase = .exec ∧ t.feDiscard = false ∧
      stepsLeft t < stepsLeft s := by
  obtain ⟨hp, i, x, p, w, hpos, hstage, -⟩ := stageOk_of_feReq h.engine hr
  have hnext : frontEnd a s =
      .next { s with feWait := false, feReq := none, feAns := some a } := by
    simp [frontEnd, hd, hw, hr, ha]
  refine ⟨_, hnext, inv_of_frontEnd h hnext, hp, hd, ?_⟩
  have hbudget : budget { s with feWait := false, feReq := none, feAns := some a } = budget s := by
    simp only [budget, hp, hpos, hstage.word, issued, hw, Option.isSome_some, Bool.or_true,
      Bool.true_or]
    rfl
  simp only [stepsLeft, hbudget, hw, if_true, Option.isSome_none, Bool.false_eq_true, if_false]
  omega

end Progress

/-! ### The block alone with a front-end (R78, R129) -/

section Serve
variable {f : Nat → FeReq → FeAns} {s : State}

theorem serveWith_idle (n : Nat) (h : s.phase = .idle) : serveWith f n s = .next s := by
  cases n with
  | zero => rfl
  | succ n => rw [serveWith, if_pos h]

theorem serveWith_answer {n : Nat} {t : State} {r : FeReq} (hp : s.phase = .exec)
    (hw : s.feWait = true) (hr : s.feReq = some r) (h : frontEnd (f n r) s = .next t) :
    serveWith f (n + 1) s = serveWith f n t := by
  rw [serveWith, if_neg (by simp [hp])]
  simp only [hw, hr, h, andThen]

theorem serveWith_engine {n : Nat} {t : State} (hp : s.phase = .exec) (hw : s.feWait = false)
    (h : engineStep s = .next t) : serveWith f (n + 1) s = serveWith f n t := by
  rw [serveWith, if_neg (by simp [hp])]
  simp only [hw, h, andThen]

/-- With steps enough the command finishes, in a state that meets the invariant. -/
theorem serveWith_finishes (hf : ∀ (n : Nat) (r : FeReq), r.accepts (f n r) = true) (n : Nat)
    (h : Inv s) (hp : s.phase = .exec) (hd : s.feDiscard = false) (hn : stepsLeft s ≤ n) :
    ∃ t, serveWith f n s = .next t ∧ t.phase = .idle ∧ Inv t := by
  induction n generalizing s with
  | zero =>
    have := stepsLeft_pos h
    omega
  | succ n ih =>
    cases hw : s.feWait with
    | true =>
      obtain ⟨r, hr⟩ := exists_feReq_of_feWait h.engine hw
      obtain ⟨t, ht, hinv, htp, htd, hless⟩ := frontEnd_progress h hw hd hr (hf n r)
      rw [serveWith_answer hp hw hr ht]
      exact ih hinv htp htd (by omega)
    | false =>
      obtain ⟨t, ht, hturn⟩ := exists_engineTurn h
      rw [serveWith_engine hp hw ht]
      obtain hidle | ⟨htp, htd, hless⟩ := hturn.progress h hp hw hd
      · exact ⟨t, serveWith_idle n hidle, hidle, hturn.inv h⟩
      · exact ih (hturn.inv h) htp htd (by omega)

/-- Settles O58: the steps left never exceed three for each request of the budget and two more. -/
theorem everyCommandFinishes : Obligations.EveryCommandFinishes := by
  intro f s hf h hp hd
  have hsteps : stepsLeft s ≤ 3 * budget s + 3 := (stepsLeft_le s).trans (Nat.le_succ _)
  exact ⟨serveWith_finishes hf _ h hp hd hsteps, budget_le h hp⟩

end Serve

end Sys2Proof.Machine

/-! PROOFS about the datapath commands: NOP (40_common.md R130), the BME280 commands (41_bme280.md
R132 to R147) and the MS5637 commands (42_ms5637.md R151 to R158): what each publishes and refuses,
and the ranges of their results over every value a register can hold. -/

namespace Sys2Proof.Machine

open Sys2Proof.Safety

/-! ### NOP and the calibration commands (R130, R132, R133, R151, R152) -/

/-- Settles O20. -/
theorem nopFinishesOk : Obligations.NopFinishesOk := fun s => succeed_eq s s.regs

theorem exec_bmeCalCommit_of_full {s : State} (h : s.regs.bme.wmask = bmeMaskFull) :
    exec .bmeCalCommit s = .next (s.finish (s.regs.setBme { s.regs.bme with
      cal := s.opsnap.bmeShadow.commit, wmask := 0, valid := true, tfineValid := false })
      .ok .none .none) := if_pos h

theorem exec_bmeCalCommit_of_not_full {s : State} (h : s.regs.bme.wmask ≠ bmeMaskFull) :
    exec .bmeCalCommit s = .next (s.finish s.regs .error .data .calIncomplete) := if_neg h

/-- Settles O21: the mask decides the commit, whose set is `BmeShadow.commit` of the sample. -/
theorem bmeCalibrationCommands : Obligations.BmeCalibrationCommands := fun _ =>
  ⟨exec_bmeCalCommit_of_full, exec_bmeCalCommit_of_not_full, rfl⟩

theorem exec_msCalCommit_of_full {s : State} (h : s.regs.ms.wmask = msMaskFull) :
    exec .msCalCommit s = .next (s.finish (s.regs.setMs { s.regs.ms with
      cal := s.opsnap.msShadow, wmask := 0, valid := true }) .ok .none .none) := if_pos h

theorem exec_msCalCommit_of_not_full {s : State} (h : s.regs.ms.wmask ≠ msMaskFull) :
    exec .msCalCommit s = .next (s.finish s.regs .error .data .calIncomplete) := if_neg h

/-- Settles O30: as the BME280 commit and clear, with the seven coefficients as they stand. -/
theorem msCalibrationCommands : Obligations.MsCalibrationCommands := fun _ =>
  ⟨exec_msCalCommit_of_full, exec_msCalCommit_of_not_full, rfl⟩

/-! ### The ends of a pressure step (R137, R138, R146) -/

theorem fit32_iff {v : Int} : fit32 v = true ↔ -2147483648 ≤ v ∧ v < 2147483648 := by
  simp [fit32]

section Pressure
variable {s : State} {w : Regs} {p : Int}

theorem pressFinish_none : pressFinish s w none =
    .next (s.finish (w.setBme { w.bme with pOut := 0 }) .error .data .divZeroGuard) := rfl

theorem pressFinish_fits (h : fit32 p = true) : pressFinish s w (some p) =
    .next (s.finish (w.setBme { w.bme with pOut := toWord p }) .ok .none .none) := if_pos h

theorem pressFinish_range (h : ¬fit32 p = true) : pressFinish s w (some p) =
    .next (s.finish (w.setBme { w.bme with pOut := 0 }) .error .data .resultRange) := if_neg h

/-- The three ends as the statements on BME_P and BME_ALL list them. -/
theorem pressFinish_ends (s : State) (w : Regs) (r : Option Int) :
    (r = none → pressFinish s w r =
      .next (s.finish (w.setBme { w.bme with pOut := 0 }) .error .data .divZeroGuard)) ∧
    (∀ p, r = some p → (-2147483648 ≤ p ∧ p < 2147483648) → pressFinish s w r =
      .next (s.finish (w.setBme { w.bme with pOut := toWord p }) .ok .none .none)) ∧
    (∀ p, r = some p → ¬(-2147483648 ≤ p ∧ p < 2147483648) → pressFinish s w r =
      .next (s.finish (w.setBme { w.bme with pOut := 0 }) .error .data .resultRange)) := by
  refine ⟨?_, ?_, ?_⟩
  · rintro rfl
    exact pressFinish_none
  · rintro p rfl hfit
    exact pressFinish_fits (fit32_iff.mpr hfit)
  · rintro p rfl hrange
    exact pressFinish_range fun hfit => hrange (fit32_iff.mp hfit)

/-- The end of a pressure step is a finish, and forgets a finish before it. -/
theorem pressFinish_of_finish (w' : Regs) (r : Result) (c : ErrClass) (k : Cause)
    (o : Option Int) :
    ∃ t, pressFinish s w o = .next t ∧ pressFinish (s.finish w' r c k) w o = .next t := by
  cases o with
  | none => exact ⟨_, rfl, rfl⟩
  | some p =>
    by_cases hfit : fit32 p = true
    · exact ⟨_, pressFinish_fits hfit, pressFinish_fits hfit⟩
    · exact ⟨_, pressFinish_range hfit, pressFinish_range hfit⟩

end Pressure

/-! ### The BME280 measurements (R135, R137, R140, R142) -/

section Measurements
variable {s : State}

theorem exec_bmeT_of_valid (h : s.regs.bme.valid = true) :
    exec .bmeT s = .next (s.finish
      (s.regs.setBme (s.regs.bme.putTemp (s.regs.bme.cal.tempOf s.opsnap.rawT)))
      .ok .none .none) := if_pos h

theorem exec_bmeP_of_valid (h : s.regs.bme.valid = true) (ht : s.regs.bme.tfineValid = true) :
    exec .bmeP s = pressFinish s s.regs
      (s.regs.bme.cal.pressOf s.opsnap.rawP s.regs.bme.tfine.toInt) :=
  (if_pos h).trans (if_pos ht)

theorem exec_bmeH_of_valid (h : s.regs.bme.valid = true) (ht : s.regs.bme.tfineValid = true) :
    exec .bmeH s = .next (s.finish (s.regs.setBme { s.regs.bme with
      hOut := toWord (s.regs.bme.cal.humOf s.opsnap.rawH s.regs.bme.tfine.toInt) })
      .ok .none .none) :=
  (if_pos h).trans (if_pos ht)

theorem exec_bmeAll_of_valid (h : s.regs.bme.valid = true) :
    exec .bmeAll s = pressFinish s (bmeAllRegs s)
      (s.regs.bme.cal.pressOf s.opsnap.rawP (s.regs.bme.cal.tempOf s.opsnap.rawT).2) := if_pos h

/-- Without a valid set the four measurements are refused (R135, R137, R140, R142). -/
theorem exec_bme_of_not_valid (h : s.regs.bme.valid = false) {i : Instr}
    (hi : i = .bmeT ∨ i = .bmeP ∨ i = .bmeH ∨ i = .bmeAll) :
    exec i s = .next (s.finish s.regs .error .data .calNotLoaded) := by
  have hno : ¬s.regs.bme.valid = true := by simp [h]
  obtain rfl | rfl | rfl | rfl := hi <;> exact if_neg hno

/-- Without a temperature of the present sample BME_P and BME_H are refused (R137, R140). -/
theorem exec_bme_of_stale (h : s.regs.bme.valid = true) (ht : s.regs.bme.tfineValid = false)
    {i : Instr} (hi : i = .bmeP ∨ i = .bmeH) :
    exec i s = .next (s.finish s.regs .error .data .tfineStale) := by
  have hno : ¬s.regs.bme.tfineValid = true := by simp [ht]
  obtain rfl | rfl := hi <;> exact (if_pos h).trans (if_neg hno)

end Measurements

/-- Settles O23. -/
theorem bmeTComputesTemperature : Obligations.BmeTComputesTemperature := fun _ =>
  ⟨fun h => exec_bme_of_not_valid h (.inl rfl), exec_bmeT_of_valid⟩

/-- Settles O24: the two refusals, then the three ends of the pressure step. -/
theorem bmePComputesPressure : Obligations.BmePComputesPressure := by
  intro s
  refine ⟨fun h => exec_bme_of_not_valid h (.inr (.inl rfl)),
    fun h ht => exec_bme_of_stale h ht (.inl rfl), fun h ht => ?_⟩
  rw [exec_bmeP_of_valid h ht]
  exact pressFinish_ends s s.regs _

/-- Settles O25. -/
theorem bmeHComputesHumidity : Obligations.BmeHComputesHumidity := fun _ =>
  ⟨fun h => exec_bme_of_not_valid h (.inr (.inr (.inl rfl))),
    fun h ht => exec_bme_of_stale h ht (.inr rfl), exec_bmeH_of_valid⟩

/-- Settles O26: the three ends of the pressure step, on copies that hold temperature and humidity
already. -/
theorem bmeAllComputesTheReading : Obligations.BmeAllComputesTheReading := by
  intro s
  refine ⟨fun h => exec_bme_of_not_valid h (.inr (.inr (.inr rfl))), fun h => ?_⟩
  rw [exec_bmeAll_of_valid h]
  exact pressFinish_ends s (bmeAllRegs s) _

/-! ### The range of the temperature chain (R135, R147) -/

/-- A signed coefficient register as an integer (R35). -/
theorem toInt_bounds_16 (b : BitVec 16) : -32768 ≤ b.toInt ∧ b.toInt ≤ 32767 := by
  have hlo := BitVec.le_toInt b
  have hhi := BitVec.toInt_lt (x := b)
  norm_num at hlo hhi
  omega

/-- A raw sample against T1 at the two scales of the chain (R134). -/
theorem tempDelta_bounds {adcT t1 : Int} (h0 : 0 ≤ adcT) (h1 : adcT < 1048576) (h2 : 0 ≤ t1)
    (h3 : t1 < 65536) :
    (-131070 ≤ shr adcT 3 - shl t1 1 ∧ shr adcT 3 - shl t1 1 ≤ 131071) ∧
      (-65535 ≤ shr adcT 4 - t1 ∧ shr adcT 4 - t1 ≤ 65535) := by
  simp only [shr, shl]
  omega

/-- The linear term of `tFine` (R134). -/
theorem tempLinear_bounds {d t2 : Int} (hd : -131070 ≤ d ∧ d ≤ 131071)
    (ht : -32768 ≤ t2 ∧ t2 ≤ 32767) : -2097136 ≤ shr (d * t2) 11 ∧ shr (d * t2) 11 ≤ 2097120 := by
  obtain ⟨hd1, hd2⟩ := hd
  obtain ⟨ht1, ht2⟩ := ht
  have hprod : -4294934528 ≤ d * t2 ∧ d * t2 ≤ 4294901760 := by
    obtain hneg | hpos := lt_or_ge t2 0 <;> constructor <;> nlinarith
  exact ⟨le_shr (by norm_num; omega), shr_le (by norm_num; omega)⟩

/-- The square term of `tFine` (R134). -/
theorem tempSquare_bounds {d t3 : Int} (hd : -65535 ≤ d ∧ d ≤ 65535)
    (ht : -32768 ≤ t3 ∧ t3 ≤ 32767) :
    -2097088 ≤ shr (shr (d * d) 12 * t3) 14 ∧ shr (shr (d * d) 12 * t3) 14 ≤ 2097024 := by
  obtain ⟨hd1, hd2⟩ := hd
  obtain ⟨ht1, ht2⟩ := ht
  have hsq0 : 0 ≤ shr (d * d) 12 := le_shr (by nlinarith)
  have hsq1 : shr (d * d) 12 ≤ 1048544 := shr_le (by norm_num; nlinarith)
  have hprod : -34358689792 ≤ shr (d * d) 12 * t3 ∧ shr (d * d) 12 * t3 ≤ 34357641248 := by
    obtain hneg | hpos := lt_or_ge t3 0 <;> constructor <;> nlinarith
  exact ⟨le_shr (by norm_num; omega), shr_le (by norm_num; omega)⟩

/-- `tFine` and T over every register value (R147). -/
theorem tempOf_bounds (c : BmeCal) (rawT : BitVec 20) :
    (c.tempOf rawT).2 ≤ 4194144 ∧ -4194224 ≤ (c.tempOf rawT).2 ∧
      (c.tempOf rawT).1 ≤ 81917 ∧ -81918 ≤ (c.tempOf rawT).1 := by
  have hraw := rawT.isLt
  have ht1 := c.t1.isLt
  obtain ⟨hlin, hsq⟩ := tempDelta_bounds (adcT := rawT.toNat) (t1 := c.t1.toNat)
    (by omega) (by omega) (by omega) (by omega)
  obtain ⟨hl1, hl2⟩ := tempLinear_bounds hlin (toInt_bounds_16 c.t2)
  obtain ⟨hs1, hs2⟩ := tempSquare_bounds hsq (toInt_bounds_16 c.t3)
  simp only [BmeCal.tempOf, bmeTemp]
  exact ⟨by omega, by omega, shr_le (by norm_num; omega), le_shr (by norm_num; omega)⟩

/-- Settles O28: the bounds of the two terms of `tFine` add up to its range, and T scales it. -/
theorem temperatureStaysInRange : Obligations.TemperatureStaysInRange := tempOf_bounds

/-- TFINE holds `tFine` exactly (R147). -/
theorem toInt_tfine (c : BmeCal) (rawT : BitVec 20) :
    (toWord (c.tempOf rawT).2).toInt = (c.tempOf rawT).2 := by
  obtain ⟨hhi, hlo, -⟩ := tempOf_bounds c rawT
  exact toInt_toWord (fit32_iff.mpr ⟨by omega, by omega⟩)

/-- Settles O27: BME_T leaves TFINE, which reads back as `tFine`, so BME_H leaves the registers of
BME_ALL before its pressure step, and BME_P takes that step on the same values. -/
theorem bmeAllEqualsTheSeparateCommands : Obligations.BmeAllEqualsTheSeparateCommands := by
  intro s h
  let tf := s.regs.bme.cal.tempOf s.opsnap.rawT
  let a := s.finish (s.regs.setBme (s.regs.bme.putTemp tf)) .ok .none .none
  let b := s.finish (bmeAllRegs s) .ok .none .none
  have htfine : a.regs.bme.tfine.toInt = tf.2 := toInt_tfine s.regs.bme.cal s.opsnap.rawT
  have hH : exec .bmeH a = .next b := by
    rw [exec_bmeH_of_valid (s := a) h rfl, htfine]
    rfl
  obtain ⟨t, hall, hsep⟩ := pressFinish_of_finish (s := s) (w := bmeAllRegs s) (bmeAllRegs s)
    .ok .none .none (s.regs.bme.cal.pressOf s.opsnap.rawP tf.2)
  have hP : exec .bmeP b = .next t := by
    rw [exec_bmeP_of_valid (s := b) h rfl, ← hsep, ← htfine]
    rfl
  exact ⟨a, b, t, t, exec_bmeT_of_valid h, hH, hP, (exec_bmeAll_of_valid h).trans hall, rfl⟩

/-! ### The ranges of the MS5637 chain (R157) -/

theorem abs_mul_le {a b A B : Int} (ha : |a| ≤ A) (hb : |b| ≤ B) : |a * b| ≤ A * B := by
  rw [abs_mul]
  exact mul_le_mul ha hb (abs_nonneg b) ((abs_nonneg a).trans ha)

theorem abs_shr_le {a B : Int} {k : Nat} (h : |a| ≤ B * 2 ^ k) : |shr a k| ≤ B := by
  obtain ⟨hlo, hhi⟩ := abs_le.mp h
  have hpos : (0 : Int) < 2 ^ k := by positivity
  exact abs_le.mpr ⟨le_shr (by linarith), shr_le (by linarith)⟩

theorem abs_toNat_le {n : Nat} (b : BitVec n) : |(b.toNat : Int)| ≤ 2 ^ n := by
  rw [abs_of_nonneg (Int.natCast_nonneg _)]
  exact_mod_cast b.isLt.le

/-- First-order values that registers can give. -/
structure MsVals.Bounded (v : MsVals) : Prop where
  dT : |v.dT| ≤ 2 ^ 24
  temp : |v.temp - 2000| ≤ 2 ^ 17
  off : |v.off| ≤ 2 ^ 35
  sens : |v.sens| ≤ 2 ^ 34

theorem msFirst_bounded (m : MsCal) (d2 : BitVec 24) : (msFirst d2.toNat m.coef).Bounded := by
  have hd2 := d2.isLt
  have hc5 := m.c5.isLt
  have hdT : |(d2.toNat : Int) - m.c5.toNat * 256| ≤ 2 ^ 24 := abs_le.mpr ⟨by omega, by omega⟩
  refine ⟨hdT, ?_, ?_, ?_⟩ <;> simp only [msFirst, MsCal.coef]
  · rw [add_sub_cancel_left]
    exact abs_shr_le ((abs_mul_le hdT (abs_toNat_le m.c6)).trans (by norm_num))
  · have hslope : |shr ((m.c4.toNat : Int) * (d2.toNat - m.c5.toNat * 256)) 6| ≤ 2 ^ 34 :=
      abs_shr_le ((abs_mul_le (abs_toNat_le m.c4) hdT).trans (by norm_num))
    have hbase : |(m.c2.toNat : Int) * 2 ^ 17| ≤ 2 ^ 33 :=
      (abs_mul_le (abs_toNat_le m.c2) le_rfl).trans (by norm_num)
    exact (abs_add_le _ _).trans (by linarith)
  · have hslope : |shr ((m.c3.toNat : Int) * (d2.toNat - m.c5.toNat * 256)) 7| ≤ 2 ^ 33 :=
      abs_shr_le ((abs_mul_le (abs_toNat_le m.c3) hdT).trans (by norm_num))
    have hbase : |(m.c1.toNat : Int) * 2 ^ 16| ≤ 2 ^ 32 :=
      (abs_mul_le (abs_toNat_le m.c1) le_rfl).trans (by norm_num)
    exact (abs_add_le _ _).trans (by linarith)

section SecondOrder
variable {v : MsVals} (h : v.Bounded)
include h

theorem msT2_bound (hT2 : Config.HighT2) : |msT2 hT2 v| ≤ 2 ^ 17 := by
  unfold msT2
  split
  · exact abs_shr_le ((abs_mul_le (abs_mul_le (abs_of_pos three_pos).le h.dT) h.dT).trans
      (by norm_num))
  · cases hT2 with
    | datasheet =>
      exact abs_shr_le ((abs_mul_le (abs_mul_le (abs_of_pos (by norm_num)).le h.dT) h.dT).trans
        (by norm_num))
    | zero => norm_num

/-- The square that the low-range corrections scale. -/
theorem low_sq_bound : |(v.temp - 2000) ^ 2| ≤ 2 ^ 34 := by
  rw [sq]
  exact (abs_mul_le h.temp h.temp).trans (by norm_num)

/-- The square that the very-low-range corrections scale. -/
theorem veryLow_sq_bound : |(v.temp + 1500) ^ 2| ≤ 2 ^ 36 := by
  have hshift : |v.temp + 1500| ≤ 2 ^ 18 := by
    have htemp := h.temp
    rw [abs_le] at htemp ⊢
    omega
  rw [sq]
  exact (abs_mul_le hshift hshift).trans (by norm_num)

/-- A low-range correction with multiplier `a`, and the very-low-range one with `b`. -/
theorem correction_bound {a b : Int} (ha : |a| ≤ 61) (hb : |b| ≤ 17) :
    |shr (a * (v.temp - 2000) ^ 2) 4| ≤ 2 ^ 40 ∧
      |shr (a * (v.temp - 2000) ^ 2) 4 + b * (v.temp + 1500) ^ 2| ≤ 2 ^ 41 := by
  have hlow : |shr (a * (v.temp - 2000) ^ 2) 4| ≤ 61 * 2 ^ 30 :=
    abs_shr_le ((abs_mul_le ha (low_sq_bound h)).trans (by norm_num))
  have hvery : |b * (v.temp + 1500) ^ 2| ≤ 17 * 2 ^ 36 := abs_mul_le hb (veryLow_sq_bound h)
  exact ⟨hlow.trans (by norm_num), (abs_add_le _ _).trans (by linarith)⟩

theorem msOff2_bound : |msOff2 v| ≤ 2 ^ 41 := by
  obtain ⟨hlow, hvery⟩ := correction_bound h (a := 61) (b := 17) (by norm_num) (by norm_num)
  simp only [msOff2]
  split_ifs
  · exact hvery
  · exact hlow.trans (by norm_num)
  · norm_num

theorem msSens2_bound : |msSens2 v| ≤ 2 ^ 41 := by
  obtain ⟨hlow, hvery⟩ := correction_bound h (a := 29) (b := 9) (by norm_num) (by norm_num)
  simp only [msSens2]
  split_ifs
  · exact hvery
  · exact hlow.trans (by norm_num)
  · norm_num

theorem msSecond_temp_bound (hT2 : Config.HighT2) : |(msSecond hT2 v).temp| ≤ 2 ^ 19 := by
  have htemp := h.temp
  have ht2 := msT2_bound h hT2
  simp only [msSecond]
  rw [abs_le] at *
  omega

theorem msSecond_press_bound (hT2 : Config.HighT2) (d1 : BitVec 24) :
    |msPress d1.toNat (msSecond hT2 v)| ≤ 3 * 2 ^ 29 := by
  have hsens : |(msSecond hT2 v).sens| ≤ 2 ^ 42 :=
    (abs_sub _ _).trans (by linarith [h.sens, msSens2_bound h])
  have hoff : |(msSecond hT2 v).off| ≤ 2 ^ 42 :=
    (abs_sub _ _).trans (by linarith [h.off, msOff2_bound h])
  have hscaled : |shr (d1.toNat * (msSecond hT2 v).sens) 21| ≤ 2 ^ 45 :=
    abs_shr_le (B := 2 ^ 45) ((abs_mul_le (abs_toNat_le d1) hsens).trans (by norm_num))
  exact abs_shr_le ((abs_sub _ _).trans (by linarith))

end SecondOrder

theorem compOf_bound (m : MsCal) (h : Config.HighT2) (d1 d2 : BitVec 24) :
    |(m.compOf h d1 d2).1| ≤ 3 * 2 ^ 29 ∧ |(m.compOf h d1 d2).2| ≤ 3 * 2 ^ 29 := by
  have hv := msFirst_bounded m d2
  exact ⟨(msSecond_temp_bound hv h).trans (by norm_num), msSecond_press_bound hv h d1⟩

/-- Settles O33: the bounds run through the chain, each product by its factors. -/
theorem msResultsAlwaysFit : Obligations.MsResultsAlwaysFit := by
  intro m h d1 d2
  obtain ⟨htemp, hpress⟩ := compOf_bound m h d1 d2
  rw [abs_le] at htemp hpress
  refine ⟨?_, ?_, ?_, ?_⟩
  · exact htemp.2.trans_lt (by norm_num)
  · exact htemp.1.trans' (by norm_num)
  · exact hpress.2.trans_lt (by norm_num)
  · exact hpress.1.trans' (by norm_num)

theorem fit32_of_abs_le {v : Int} (h : |v| ≤ 3 * 2 ^ 29) : fit32 v = true := by
  rw [abs_le] at h
  exact fit32_iff.mpr ⟨by omega, by omega⟩

/-- Settles O32: the range branch is never taken (R157). -/
theorem msCompComputesBoth : Obligations.MsCompComputesBoth := by
  intro s
  obtain ⟨htemp, hpress⟩ := compOf_bound s.regs.ms.cal s.params.msHighT2 s.opsnap.d1 s.opsnap.d2
  have hfits := Bool.and_eq_true_iff.mpr ⟨fit32_of_abs_le htemp, fit32_of_abs_le hpress⟩
  exact ⟨fun h => if_neg (by simp [h]), fun h => (if_pos h).trans (if_pos hfits)⟩

/-! ### Monotonicity in D1 (R158) -/

theorem msPress_le_of_mul_le {v : MsVals} {a b : Int} (h : a * v.sens ≤ b * v.sens) :
    msPress a v ≤ msPress b v :=
  shr_mono (Int.sub_le_sub_right (shr_mono h 21) _) 15

/-- Settles O34: both shifts are monotone, and the sign of SENS is that of the slope. -/
theorem msPressureIsMonotoneInD1 : Obligations.MsPressureIsMonotoneInD1 := fun _ _ _ _ _ hab =>
  ⟨fun hs => msPress_le_of_mul_le (mul_le_mul_of_nonneg_right hab hs),
    fun hs => msPress_le_of_mul_le (mul_le_mul_of_nonpos_right hab hs.le)⟩

end Sys2Proof.Machine

/-! PROOFS about the step, the front-end port and the register window: the move of each agent
(40_common.md R116, R120), what a finish publishes (R122, R128), what each published register reads
as (10_state.md R21 to R53), DBUF (R51), STATUS and IRQ (R25, R30, R214). -/

namespace Sys2Proof.Machine

open Sys2Proof.Safety

/-! ### The moves (R116) -/

theorem step_of_no_move {s : State} (h : s.env = []) : step s = engineStep s := by
  simp only [step, h]

theorem step_of_move {s : State} {e : Event} {rest : List Event} (h : s.env = e :: rest) :
    step s = act e { s with env := rest } := by
  simp only [step, h]

/-- Settles O6: a step is the listed move, and the engine's turn with no request due runs the
accepted command. -/
theorem stepRunsTheAcceptedCommand : Obligations.StepRunsTheAcceptedCommand := by
  refine ⟨fun s i hp hw hr hd => ⟨fun h => ?_, fun rest h => ?_⟩, fun s rest =>
    ⟨step_of_no_move, step_of_move, fun _ _ => step_of_move, fun _ _ _ => step_of_move,
      fun _ => step_of_move⟩⟩
  · exact (step_of_no_move h).trans (engineStep_runs hp hw hr hd)
  · exact (step_of_move h).trans (engineStep_runs (s := { s with env := rest }) hp hw hr hd)

/-! ### A request is made and answered (R77, R120, R236) -/

section Requests
variable {s : State} {r : FeReq}

theorem engineStep_makes (hp : s.phase = .exec) (hw : s.feWait = false) (hd : s.feDiscard = false)
    (hr : s.feReq = some r) : engineStep s = .next (s.issue r) := by
  simp [engineStep, State.engineEnabled, hp, hw, hd, hr]

theorem engineStep_waits (hw : s.feWait = true) : engineStep s = .next s :=
  if_neg (by simp [State.engineEnabled, hw])

/-- A request is held back while a late answer is still due (R54, R236). -/
theorem engineStep_heldBack (hd : s.feDiscard = true) (hr : s.feReq = some r) :
    engineStep s = .next s := by
  simp [engineStep, hd, hr]

theorem frontEnd_accepts {a : FeAns} (hw : s.feWait = true) (hd : s.feDiscard = false)
    (hr : s.feReq = some r) (ha : r.accepts a = true) :
    frontEnd a s = .next { s with feWait := false, feReq := none, feAns := some a } := by
  simp [frontEnd, hw, hd, hr, ha]

theorem frontEnd_rejects {a : FeAns} (hw : s.feWait = true) (hd : s.feDiscard = false)
    (hr : s.feReq = some r) (ha : r.accepts a = false) :
    frontEnd a s = .refused .answerOutsideAlphabet := by
  simp [frontEnd, hw, hd, hr, ha]

end Requests

/-- Settles O7. -/
theorem requestsAreMadeAndAnswered : Obligations.RequestsAreMadeAndAnswered := by
  intro s r a hp hr
  refine ⟨fun hw hd => ⟨?auth, fun h => ?other⟩, engineStep_waits,
    fun hd => engineStep_heldBack hd hr, fun hw hd => frontEnd_accepts hw hd hr,
    fun hw hd => frontEnd_rejects hw hd hr⟩
  case auth =>
    rintro d rfl
    exact engineStep_makes hp hw hd hr
  case other => rw [engineStep_makes hp hw hd hr, State.issue_of_not_authStart s r h]

/-! ### Finish (R122, R128) -/

/-- The host reads the registers and the accepted word, and apart from them only STATUS and IRQ. -/
theorem readReg_congr {s t : State} (hregs : t.regs = s.regs) (hcur : t.cur = s.cur) {r : Reg}
    (hstatus : r ≠ .status) (hirq : r ≠ .irq) : t.readReg r = s.readReg r := by
  cases r with
  | status => exact absurd rfl hstatus
  | irq => exact absurd rfl hirq
  | _ => simp only [State.readReg, hregs, hcur]

theorem window_congr {s t : State} (hregs : t.regs = s.regs) (hcur : t.cur = s.cur) {off : Nat}
    (hstatus : off ≠ 0x00C) (hirq : off ≠ 0x010) : t.window off = s.window off := by
  cases hr : Reg.ofOffset off with
  | none => simp only [State.window, hr]
  | some r =>
    have hall : ∀ e ∈ regMap, (e.2 = .status → e.1 = 0x00C) ∧ (e.2 = .irq → e.1 = 0x010) := by
      decide
    obtain ⟨hs, hi⟩ := hall _ (mem_regMap_of_ofOffset hr)
    rw [window_mapped hr, window_mapped hr]
    exact readReg_congr hregs hcur (fun h => hstatus (hs h)) (fun h => hirq (hi h))

/-- Settles O8: the fields are those `State.finish` names, and a finish that leaves the registers
alone leaves the window alone but for STATUS and IRQ. -/
theorem finishReportsAndPublishes : Obligations.FinishReportsAndPublishes := fun s w r c k =>
  ⟨rfl, rfl, rfl, rfl, rfl, rfl, rfl, rfl, rfl, rfl, rfl, rfl, rfl, rfl, rfl, rfl, rfl, rfl, rfl,
    rfl, rfl, rfl, rfl, rfl,
    fun hw _ hstatus hirq => window_congr (t := s.finish w r c k) hw rfl hstatus hirq⟩

/-! ### Host accesses (R58, R63) -/

theorem accessOk_iff {off bytes : Nat} :
    accessOk off bytes = true ↔ bytes = 4 ∧ off % 4 = 0 ∧ off < 1024 := by
  rw [accessOk, Bool.and_eq_true, Bool.and_eq_true, beq_iff_eq, beq_iff_eq, decide_eq_true_iff,
    and_assoc]
  rfl

theorem hostAccess_refused {off bytes : Nat} (h : ¬(bytes = 4 ∧ off % 4 = 0 ∧ off < 1024))
    (s : State) : hostRead off bytes s = .refused .hostAccess ∧
      ∀ v, hostWrite off bytes v s = .refused .hostAccess :=
  have hno := mt accessOk_iff.mp h
  ⟨if_neg hno, fun _ => if_neg hno⟩

theorem window_reserved {off : Nat} (h : Reg.ofOffset off = none) (s : State) :
    s.window off = 0 ∧ ∀ v, s.writeWindow off v = s := by
  simp [State.window, State.writeWindow, h]

/-! ### The bytes of the window (R51 to R53, R67) -/

/-- The UID registers lie at `0x140 + 4 * w` (R52). -/
theorem ofOffset_uidW (w : Fin 3) : Reg.ofOffset (0x140 + 4 * w.val) = some (.uidW w) := by
  revert w; decide

theorem wordByte_packWord (f : Nat → Byte) (n : Nat) {j : Nat} (hj : j < 4) :
    wordByte (packWord (f n) (f (n + 1)) (f (n + 2)) (f (n + 3))) j = f (n + j) := by
  obtain ⟨h0, h1, h2, h3, -⟩ : _ ∧ _ ∧ _ ∧ _ ∧ True := by
    simpa [wordBytes] using packWord_bytes (f n) (f (n + 1)) (f (n + 2)) (f (n + 3))
  interval_cases j
  · exact h0
  · exact h1
  · exact h2
  · exact h3

theorem wordByte_packWord_div (f : Nat → Byte) (i : Nat) :
    wordByte (packWord (f (4 * (i / 4))) (f (4 * (i / 4) + 1)) (f (4 * (i / 4) + 2))
      (f (4 * (i / 4) + 3))) (i % 4) = f i := by
  rw [wordByte_packWord f _ (Nat.mod_lt i (by decide)), Nat.div_add_mod]

theorem window_dbuf_byte (s : State) {i : Nat} (hi : i < 32) :
    wordByte (s.window (0x120 + 4 * (i / 4))) (i % 4) = dbufAt s.regs.ops.dbuf i := by
  rw [window_mapped (ofOffset_dbuf ⟨i / 4, by omega⟩)]
  exact wordByte_packWord_div _ i

theorem window_uid_byte (s : State) {i : Nat} (hi : i < 12) :
    wordByte (s.window (0x140 + 4 * (i / 4))) (i % 4) = byteAt (s.regs.seq.uid.take 10) i := by
  rw [window_mapped (ofOffset_uidW ⟨i / 4, by omega⟩)]
  exact wordByte_packWord_div _ i

theorem byteAt_take_of_lt {bs : List Byte} {i n : Nat} (h : i < n) :
    byteAt (bs.take n) i = byteAt bs i := by
  simp [byteAt, List.getD_eq_getElem?_getD, h]

/-- Bytes past the kept ones, or past the end, read 0 (R52). -/
theorem byteAt_take_of_le {bs : List Byte} {i n : Nat} (h : n ≤ i ∨ bs.length ≤ i) :
    byteAt (bs.take n) i = 0 := by
  simp only [byteAt]
  rw [List.getD_eq_default]
  simpa using h

/-- The two registers of a cascade buffer hold its bytes in index order (R53). -/
theorem clWords (q : SeqUnit) (l : BitVec 2) :
    q.clW0 l = (q.cl l)[3] ++ (q.cl l)[2] ++ (q.cl l)[1] ++ (q.cl l)[0] ∧
      q.clW1 l = (q.cl l)[4].setWidth 32 :=
  ⟨packWord_eq_append .., rfl⟩

/-! ### The words of the status registers (R31 to R34, R48) -/

theorem window_session_fields (s : State) :
    let w := s.window 0x014
    w.extractLsb' 0 3 = s.regs.seq.state.code ∧ w.getLsbD 3 = s.regs.seq.uidValid ∧
    w.getLsbD 4 = s.regs.seq.cryptoHeld ∧ w.extractLsb' 5 2 = s.regs.seq.level ∧
    w.getLsbD 7 = s.regs.seq.ct ∧ w.extractLsb' 8 4 = BitVec.ofNat 4 s.regs.seq.uid.length ∧
    w.extractLsb' 12 20 = 0 := by
  rw [window_mapped (r := .session) rfl s]
  exact sessionWord_fields s.regs.seq

theorem window_calstat_fields (s : State) :
    let w := s.window 0x018
    w.getLsbD 0 = s.regs.bme.valid ∧ w.getLsbD 1 = s.regs.ms.valid ∧
    w.getLsbD 2 = s.regs.bme.tfineValid ∧ w.extractLsb' 3 5 = 0 ∧
    w.extractLsb' 8 7 = s.regs.ms.wmask ∧ w.extractLsb' 15 17 = 0 := by
  rw [window_mapped (r := .calstat) rfl s]
  exact calstatWord_fields s.regs

theorem window_bmeWmask_fields (s : State) :
    (s.window 0x01C).extractLsb' 0 19 = s.regs.bme.wmask ∧
      (s.window 0x01C).extractLsb' 19 13 = 0 := by
  rw [window_mapped (r := .bmeWmask) rfl s]
  exact ⟨BitVec.extractLsb'_append_eq_right, BitVec.extractLsb'_append_eq_left⟩

theorem window_atqaSak_fields (s : State) :
    (s.window 0x108).extractLsb' 0 16 = s.regs.seq.atqa ∧
      (s.window 0x108).extractLsb' 16 8 = s.regs.seq.sak ∧
      (s.window 0x108).extractLsb' 24 8 = 0 := by
  rw [window_mapped (r := .atqaSak) rfl s]
  exact ⟨BitVec.extractLsb'_append_eq_right,
    (BitVec.extractLsb'_append_eq_of_le (by decide)).trans BitVec.extractLsb'_append_eq_right,
    (BitVec.extractLsb'_append_eq_of_le (by decide)).trans BitVec.extractLsb'_append_eq_left⟩

/-- Settles O12: each register's read is its row of `State.readReg`, taken apart by field where the
register has fields and by byte where it holds bytes. -/
theorem hostReadsAreIdempotent : Obligations.HostReadsAreIdempotent := by
  intro s off bytes
  obtain ⟨hstate, huidValid, hheld, hlevel, hct, huidLen, hsession0⟩ := window_session_fields s
  obtain ⟨hbme, hms, htfine, hcal3, hmswmask, hcal15⟩ := window_calstat_fields s
  obtain ⟨hbmewmask, hwmask0⟩ := window_bmeWmask_fields s
  obtain ⟨hatqa, hsak, hatqaSak0⟩ := window_atqaSak_fields s
  have read (o : Nat) (r : Reg) (h : Reg.ofOffset o = some r) : s.window o = s.readReg r :=
    window_mapped h s
  have cl (o : Nat) (l : BitVec 2) (h0 : Reg.ofOffset o = some (.clW0 l))
      (h1 : Reg.ofOffset (o + 4) = some (.clW1 l)) :
      s.window o = s.regs.seq.clW0 l ∧ s.window (o + 4) = s.regs.seq.clW1 l :=
    ⟨read o _ h0, read _ _ h1⟩
  refine ⟨fun h4 hmod hlt => if_pos (accessOk_iff.mpr ⟨h4, hmod, hlt⟩),
    fun h => hostAccess_refused h s, read _ .keyLo rfl, read _ .keyHi rfl, read _ .ctrl rfl,
    fun h => window_reserved h s, read _ .id rfl, read _ .cmd rfl, ?state, huidValid, hheld, hlevel,
    hct, huidLen, hsession0, hbme, hms, htfine, hcal3, hmswmask, hcal15, hbmewmask, hwmask0,
    read _ .h4 rfl, read _ .h5 rfl, read _ .tfine rfl, read _ .tOut rfl, read _ .pOut rfl,
    read _ .hOut rfl, read _ .msTemp rfl, read _ .msP rfl, read _ .len rfl, read _ .crcRes rfl,
    hatqa, hsak, hatqaSak0, read _ .authUid rfl, fun i hi => window_dbuf_byte s hi,
    fun i hi hlen => ?uid, fun i hi hpast => ?pastUid, ?cl1, ?cl2, ?cl3⟩
  case state =>
    rw [hstate]
    cases s.regs.seq.state <;> rfl
  case uid => exact (window_uid_byte s (by omega)).trans (byteAt_take_of_lt hi)
  case pastUid => exact (window_uid_byte s hi).trans (byteAt_take_of_le hpast)
  case cl1 =>
    obtain ⟨h0, h1⟩ := cl 0x150 1 rfl rfl
    exact ⟨h0.trans (clWords _ 1).1, h1⟩
  case cl2 =>
    obtain ⟨h0, h1⟩ := cl 0x158 2 rfl rfl
    exact ⟨h0.trans (clWords _ 2).1, h1⟩
  case cl3 =>
    obtain ⟨h0, h1⟩ := cl 0x160 3 rfl rfl
    exact ⟨h0.trans (clWords _ 3).1, h1⟩

/-! ### DBUF (R51) -/

theorem dbufAt_setWord (d : Vector Byte 32) (w : Fin 8) (v : Word) (n : Nat) :
    dbufAt (dbufSetWord d w v) n = if n / 4 = w.val then wordByte v (n % 4) else dbufAt d n := by
  by_cases hn : n < 32
  · by_cases hw : n / 4 = w.val <;> simp [dbufAt, dbufSetWord, hn, hw]
  · have hw : n / 4 ≠ w.val := by omega
    simp [dbufAt, hn, hw]

theorem dbufAt_setWord_byte (d : Vector Byte 32) (w : Fin 8) (v : Word) {j : Nat} (hj : j < 4) :
    dbufAt (dbufSetWord d w v) (4 * w.val + j) = wordByte v j := by
  have hdiv : (4 * w.val + j) / 4 = w.val := by omega
  have hmod : (4 * w.val + j) % 4 = j := by omega
  rw [dbufAt_setWord, if_pos hdiv, hmod]

theorem dbufWord_setWord (d : Vector Byte 32) (w : Fin 8) (v : Word) :
    dbufWord (dbufSetWord d w v) w = v := by
  have hbyte := fun j (hj : j < 4) => dbufAt_setWord_byte d w v hj
  rw [dbufWord, hbyte 1 (by decide), hbyte 2 (by decide), hbyte 3 (by decide)]
  rw [show dbufAt (dbufSetWord d w v) (4 * w.val) = wordByte v 0 from hbyte 0 (by decide)]
  exact packWord_wordByte v

/-- Settles O15. -/
theorem dbufWordsAreLittleEndian : Obligations.DbufWordsAreLittleEndian := by
  intro s w v h
  have hwrite := hostWrite_setOps_idle (v := v) (fun o => { o with dbuf := dbufSetWord o.dbuf w v })
    (ofOffset_dbuf w) rfl h
  refine ⟨_, hwrite, ?_, fun j hj => dbufAt_setWord_byte _ w v hj, fun n hn => ?_⟩
  · exact (window_mapped (ofOffset_dbuf w) _).trans (dbufWord_setWord _ w v)
  · exact (dbufAt_setWord _ w v n).trans (if_neg hn)

/-! ### STATUS and IRQ (R25 to R30, R214) -/

theorem busy_iff {s : State} : s.busy = true ↔ s.phase = .exec := by
  simp [State.busy]

/-- Settles O16: both registers are written in either phase for no lock guards them; their words are
taken apart by field, and each cause has its row in the table. -/
theorem statusAndIrqWrites : Obligations.StatusAndIrqWrites := by
  refine ⟨fun s v => ⟨hostWrite_mapped (r := .status) rfl v s, hostWrite_mapped (r := .irq) rfl v s,
    rfl⟩, fun s => ?fields, fun c => ?table⟩
  case fields =>
    rw [window_mapped (r := .status) rfl s, window_mapped (r := .irq) rfl s]
    obtain ⟨hbusy, hdone, hresult, hclass, h7, hcause, hlastOp, hoverrun, hwbusy, h26⟩ :=
      statusWord_fields s
    obtain ⟨hen, hpend, hirq0⟩ := irqWord_fields s
    refine ⟨?_, hdone, ?_, ?_, h7, hcause, hlastOp, hoverrun, hwbusy, h26, hen, hpend, hirq0⟩
    · exact (Bool.eq_iff_iff.mp hbusy).trans busy_iff
    · refine hresult.trans ?_
      cases s.result <;> rfl
    · refine hclass.trans ?_
      cases s.errClass <;> rfl
  case table => cases c <;> decide

end Sys2Proof.Machine

/-! PROOFS about the meaning of the CRC and tag commands at each position (43_crc16.md R164, R166;
44_iso14443_anticoll.md R171 to R180; 45_iso14443_auth_rw.md R188 to R199): the preconditions, the
frames they send, and what they make of each reply. -/

namespace Sys2Proof.Machine

open Sys2Proof.Safety

/-! ### CRC_CALC and CRC_CHECK (R164, R166) -/

/-- Settles O35. -/
theorem crcCalcPublishesTheCrc : Obligations.CrcCalcPublishesTheCrc := fun _ =>
  ⟨fun hp hlong => (resume_start hp _ _).trans (if_pos hlong),
    fun hp hlen => (resume_start hp _ _).trans (if_neg hlen.not_gt),
    fun _ _ hp ha => resume_at hp ha _ _⟩

/-- Settles O36. -/
theorem crcCheckComparesTheCrc : Obligations.CrcCheckComparesTheCrc := fun _ =>
  ⟨fun hp hlen => (resume_start hp _ _).trans (if_pos hlen),
    fun hp h3 h32 =>
      (resume_start hp _ _).trans (if_neg (not_or.mpr ⟨h3.not_gt, h32.not_gt⟩)),
    fun _ _ hp ha => ⟨fun heq => (resume_at hp ha _ _).trans (if_pos heq),
      fun hne => (resume_at hp ha _ _).trans (if_neg hne)⟩⟩

/-! ### Session preconditions (R174, R177, R201) -/

/-- Settles O43: each test is a conjunction of field comparisons. -/
theorem cascadePreconditions : Obligations.CascadePreconditions := by
  intro q
  refine ⟨?anticoll1, ?anticoll2, ?anticoll3, fun l => ?select, ?auth, ?classic, ?ntag⟩
  case anticoll1 => simp [anticollReady]
  case anticoll2 => simp [anticollReady, and_assoc]
  case anticoll3 => simp [anticollReady, and_assoc]
  case select => simp [selectReady]
  case auth => simp [authReady]
  case classic => simp [readReady, classicReady]
  case ntag => simp [readReady, ntagReady]

/-! ### The replies of the exchanges (R171, R174, R177, R195, R197) -/

section Replies
variable {s : State} {w : Regs} {l : BitVec 2} {rx : List Byte} {bits : Nat} {ret : Regs → Out}

theorem reqByte_eq (m : ReqMode) : reqByte m = if m = .reqA then 0x26 else 0x52 := by
  cases m <;> rfl

theorem keyByte_eq (k : KeyType) : keyByte k = if k = .keyA then 0x60 else 0x61 := by
  cases k <;> rfl

theorem requestReply_of_bits (h : bits = 16) : requestReply s w rx bits ret =
    ret (w.setSeq { w.seq with
      atqa := byteAt rx 1 ++ byteAt rx 0, state := .requested }) := if_pos h

theorem requestReply_of_other_bits (h : bits ≠ 16) :
    requestReply s w rx bits ret = seqFail s w .protocol .bitCount := if_neg h

/-- A reply of `do_anticoll` that passes the two checks every level makes (R174). -/
def GoodReply (rx : List Byte) (bits : Nat) : Prop := bits = 40 ∧ byteAt rx 4 = bccOf rx

theorem anticollReply_of_other_bits (h : bits ≠ 40) :
    anticollReply s w l rx bits ret = seqFail s w .transport .respLength := if_pos h

theorem anticollReply_of_bcc (h40 : bits = 40) (h : byteAt rx 4 ≠ bccOf rx) :
    anticollReply s w l rx bits ret = seqFail s w .protocol .bccMismatch :=
  (if_neg (not_not.mpr h40)).trans (if_pos h)

theorem anticollReply_of_good (h : GoodReply rx bits) : anticollReply s w l rx bits ret =
    if byteAt rx 0 = cascadeTag ∧ l = 3 then seqFail s w .protocol .cascadeDepth
    else ret (w.setSeq (w.seq.takeReply l rx)) :=
  (if_neg (not_not.mpr h.1)).trans (if_neg (not_not.mpr h.2))

theorem anticollReply_of_depth (h : GoodReply rx bits) (hm : byteAt rx 0 = cascadeTag)
    (hl : l = 3) :
    anticollReply s w l rx bits ret = seqFail s w .protocol .cascadeDepth :=
  (anticollReply_of_good h).trans (if_pos ⟨hm, hl⟩)

theorem anticollReply_of_marker (h : GoodReply rx bits) (hm : byteAt rx 0 = cascadeTag)
    (hl : l ≠ 3) : anticollReply s w l rx bits ret =
      ret (w.setSeq { w.seq.setCl l (five rx) with
        level := l, state := .anticoll, ct := true
        uid := w.seq.uid ++ [byteAt rx 1, byteAt rx 2, byteAt rx 3] }) := by
  rw [anticollReply_of_good h, if_neg fun hdepth => hl hdepth.2, SeqUnit.takeReply_of_marker hm]

theorem anticollReply_of_no_marker (h : GoodReply rx bits) (hm : byteAt rx 0 ≠ cascadeTag) :
    anticollReply s w l rx bits ret =
      ret (w.setSeq { w.seq.setCl l (five rx) with
        level := l, state := .anticoll, ct := false, uidValid := true
        uid := w.seq.uid ++ [byteAt rx 0, byteAt rx 1, byteAt rx 2, byteAt rx 3] }) := by
  rw [anticollReply_of_good h, if_neg fun hdepth => hm hdepth.1, SeqUnit.takeReply_of_no_marker hm]

/-- Where the reply is bad or carries a marker too many, the continuation is not reached, so two
commands with the same exchange do the same. -/
theorem anticollReply_fails_alike (h : ¬GoodReply rx bits ∨ (byteAt rx 0 = cascadeTag ∧ l = 3))
    (ret' : Regs → Out) :
    anticollReply s w l rx bits ret = anticollReply s w l rx bits ret' := by
  by_cases h40 : bits = 40
  · by_cases hbcc : byteAt rx 4 = bccOf rx
    · obtain ⟨hm, hl⟩ := h.resolve_left (not_not.mpr ⟨h40, hbcc⟩)
      rw [anticollReply_of_depth ⟨h40, hbcc⟩ hm hl, anticollReply_of_depth ⟨h40, hbcc⟩ hm hl]
    · rw [anticollReply_of_bcc h40 hbcc, anticollReply_of_bcc h40 hbcc]
  · rw [anticollReply_of_other_bits h40, anticollReply_of_other_bits h40]

/-- The buffer of a level holds what was written to it (R53). -/
theorem SeqUnit.cl_setCl (q : SeqUnit) (l : BitVec 2) (b : Vector Byte 5) :
    (q.setCl l b).cl l = b := by
  simp only [SeqUnit.cl, SeqUnit.setCl]
  split
  · rfl
  · split <;> rfl

theorem selectReply_of_other_bits (h : bits ≠ 24) :
    selectReply s w l rx bits ret = seqFail s w .protocol .bitCount := if_pos h

theorem selectReply_of_unchecked (h : bits = 24) (hc : s.params.checkRxCrc = false) :
    selectReply s w l rx bits ret = ret (w.setSeq { w.seq with
      sak := byteAt rx 0, state := .selected }) :=
  (if_neg (not_not.mpr h)).trans (if_neg (by simp [hc]))

theorem selectReply_of_checked (h : bits = 24) (hc : s.params.checkRxCrc = true) :
    selectReply s w l rx bits ret = .next ((s.holdRx rx).ask w (.selectChk l) .start
      (.crcStart [byteAt rx 0])) :=
  (if_neg (not_not.mpr h)).trans (if_pos hc)

theorem selectReply_fails_alike (h : bits ≠ 24 ∨ s.params.checkRxCrc = true)
    (ret' : Regs → Out) : selectReply s w l rx bits ret = selectReply s w l rx bits ret' := by
  by_cases h24 : bits = 24
  · have hc := h.resolve_left (not_not.mpr h24)
    rw [selectReply_of_checked h24 hc, selectReply_of_checked h24 hc]
  · rw [selectReply_of_other_bits h24, selectReply_of_other_bits h24]

/-- What `do_select` makes of the CRC `c` of the reply it holds (R177, `P_CHECK_RX_CRC = 1`). -/
def selectCheck (s : State) (w : Regs) (c : BitVec 16) (ret : Regs → Out) : Out :=
  if c = pair16 (byteAt s.rxHeld 1) (byteAt s.rxHeld 2) then
    ret (w.setSeq (w.seq.takeSak (byteAt s.rxHeld 0)))
  else seqFail s w .protocol .crcMismatch

theorem selectChkStep_read (lo hi : Byte) : selectChkStep s w l .read (.res lo hi) ret =
    selectCheck s w (pair16 lo hi) ret := rfl

theorem readReply_of_nak (h : bits = 4) :
    readReply s w rx bits = seqFail s w .protocol .nak := if_pos h

theorem readReply_of_length (h4 : bits ≠ 4) (h : bits ≠ 144) :
    readReply s w rx bits = seqFail s w .transport .respLength :=
  (if_neg h4).trans (if_pos h)

theorem readReply_of_checked (h : bits = 144) (hc : s.params.checkRxCrc = true) :
    readReply s w rx bits = .next ((s.holdRx rx).ask w .readChk .start (.crcStart (rx.take 16))) :=
  (if_neg (by omega)).trans ((if_neg (not_not.mpr h)).trans (if_pos hc))

theorem readReply_of_unchecked (h : bits = 144) (hc : s.params.checkRxCrc = false) :
    readReply s w rx bits = succeed s (w.loadDbuf rx) :=
  (if_neg (by omega)).trans ((if_neg (not_not.mpr h)).trans (if_neg (by simp [hc])))

theorem isAck_iff : isAck rx bits = true ↔ bits = 4 ∧ (byteAt rx 0).extractLsb' 0 4 = 0xA := by
  rw [isAck, Bool.and_eq_true, beq_iff_eq, beq_iff_eq]

theorem isAck_ite {o o' : Out} (h : bits = 4 ∧ (byteAt rx 0).extractLsb' 0 4 = 0xA) :
    (if isAck rx bits then o else o') = o := if_pos (isAck_iff.mpr h)

theorem isAck_ite_not {o o' : Out} (h : ¬(bits = 4 ∧ (byteAt rx 0).extractLsb' 0 4 = 0xA)) :
    (if isAck rx bits then o else o') = o' := if_neg (mt isAck_iff.mp h)

end Replies

/-! ### The start of a command (R171, R174, R177, R188, R195) -/

section Starts
variable {c : Bool} {o o' : Out}

theorem ite_of_true (h : c = true) : (if c then o else o') = o := if_pos h

theorem ite_of_false (h : c = false) : (if c then o else o') = o' := if_neg (by simp [h])

end Starts

/-! ### REQUEST (R171, R172) -/

/-- Settles O41. -/
theorem requestMeaning : Obligations.RequestMeaning := by
  intro m s
  refine ⟨fun hp hheld => ?held, fun hp hfree => ?starts, fun rx bits hp ha => ⟨fun h => ?reply,
    fun h => ?other⟩⟩
  case held => exact (resume_start hp _ _).trans (ite_of_true hheld)
  case starts =>
    rw [← reqByte_eq]
    exact (resume_start hp _ _).trans (ite_of_false hfree)
  case reply => exact (resume_at hp ha _ _).trans (requestReply_of_bits h)
  case other => exact (resume_at hp ha _ _).trans (requestReply_of_other_bits h)

/-! ### ANTICOLL (R174, R175) -/

/-- Settles O42: past the refusals the frame, and the reply's checks in order. -/
theorem anticollMeaning : Obligations.AnticollMeaning := by
  intro l s hl
  refine ⟨fun hp hheld => ?held, fun hp hfree hno => ?state, fun hp hfree hready => ?starts,
    fun rx bits hp ha => ?reply⟩
  case held => exact (resume_start hp _ _).trans ((if_neg hl).trans (ite_of_true hheld))
  case state =>
    exact (resume_start hp _ _).trans
      ((if_neg hl).trans ((ite_of_false hfree).trans (ite_of_false hno)))
  case starts =>
    exact (resume_start hp _ _).trans
      ((if_neg hl).trans ((ite_of_false hfree).trans (ite_of_true hready)))
  case reply =>
    have hexec : exec (.anticoll l) s = anticollReply s s.working l rx bits (succeed s) :=
      resume_at hp ha _ _
    exact ⟨fun h => hexec.trans (anticollReply_of_other_bits h),
      fun h40 h => hexec.trans (anticollReply_of_bcc h40 h),
      fun h hm h3 => hexec.trans (anticollReply_of_depth h hm h3),
      fun h hm h3 => hexec.trans (anticollReply_of_marker h hm h3),
      fun h hm => hexec.trans (anticollReply_of_no_marker h hm)⟩

/-! ### SELECT (R177, R178) -/

/-- Settles O44. -/
theorem selectMeaning : Obligations.SelectMeaning := by
  intro l s hl
  refine ⟨fun hp hheld => ?held, fun hp hfree hno => ?state, fun hp hfree hready => ?starts,
    fun lo hi hp ha => ?frame, fun rx bits hp ha => ?reply, fun lo hi hp ha => ?check⟩
  case held => exact (resume_start hp _ _).trans ((if_neg hl).trans (ite_of_true hheld))
  case state =>
    exact (resume_start hp _ _).trans
      ((if_neg hl).trans ((ite_of_false hfree).trans (ite_of_false hno)))
  case starts =>
    exact (resume_start hp _ _).trans
      ((if_neg hl).trans ((ite_of_false hfree).trans (ite_of_true hready)))
  case frame =>
    rw [← le16_pair16 lo hi]
    exact resume_at hp ha _ _
  case reply =>
    have hexec : exec (.select l) s = selectReply s s.working l rx bits (succeed s) :=
      resume_at hp ha _ _
    exact ⟨fun h => hexec.trans (selectReply_of_other_bits h),
      fun h hc => hexec.trans (selectReply_of_unchecked h hc),
      fun h hc => hexec.trans (selectReply_of_checked h hc)⟩
  case check =>
    exact ⟨fun h => (resume_at hp ha _ _).trans (if_pos h),
      fun h => (resume_at hp ha _ _).trans (if_neg h)⟩

/-! ### SCAN (R180) -/

section Scan
variable {s : State} (m : ReqMode) {l : BitVec 2} {p : Prim} {a : FeAns}

theorem exec_scan_request (hp : s.pcSeq = .at .request p) (ha : s.feAns = some a) :
    exec (.scan m) s = requestStep s s.working p a fun w => anticollCall s w 1 :=
  resume_at hp ha _ _

theorem exec_scan_anticoll (hp : s.pcSeq = .at (.anticoll l) p) (ha : s.feAns = some a) :
    exec (.scan m) s = anticollStep s s.working l p a fun w =>
      if w.seq.ct then selectCall s w l else succeed s w :=
  resume_at hp ha _ _

theorem exec_scan_selectCrc (hp : s.pcSeq = .at (.selectCrc l) p) (ha : s.feAns = some a) :
    exec (.scan m) s = selectCrcStep s s.working l p a :=
  resume_at hp ha _ _

theorem exec_scan_selectTrx (hp : s.pcSeq = .at (.selectTrx l) p) (ha : s.feAns = some a) :
    exec (.scan m) s = selectTrxStep s s.working l p a fun w => anticollCall s w (l + 1) :=
  resume_at hp ha _ _

theorem exec_scan_selectChk (hp : s.pcSeq = .at (.selectChk l) p) (ha : s.feAns = some a) :
    exec (.scan m) s = selectChkStep s s.working l p a fun w => anticollCall s w (l + 1) :=
  resume_at hp ha _ _

/-- The exchange of the SELECT frame's CRC is the single command's, continuation and all (R180). -/
theorem exec_scan_eq_select (hp : s.pcSeq = .at (.selectCrc l) p) :
    exec (.scan m) s = exec (.select l) s := by
  cases ha : s.feAns with
  | none => simp only [exec, execScan, execSelect, resume, hp, ha]
  | some a =>
    have hsingle : exec (.select l) s = selectCrcStep s s.working l p a := resume_at hp ha _ _
    exact (exec_scan_selectCrc m hp ha).trans hsingle.symm

/-- Past a marker below the last level SCAN goes on with the level's SELECT frame, which carries the
reply just received (R177, R180). -/
theorem selectCall_after_reply {w : Regs} {b : Vector Byte 5} (hq : w.seq.cl l = b) :
    selectCall s w l = .next (s.ask w (.selectCrc l) .start
      (.crcStart ([selByte l, nvbSelect] ++ b.toList))) := by
  rw [← hq]
  rfl

/-- The anticollision of a later level clears nothing (R174). -/
theorem anticollCall_next_level (hl : l ≠ 0) (w : Regs) : anticollCall s w (l + 1) =
    .next (s.ask w (.anticoll (l + 1)) .start (.trxStart [selByte (l + 1), nvbAnticoll] 0)) := by
  have hkeeps : w.seq.clearForAnticoll (l + 1) = w.seq := if_neg (by simpa using hl)
  rw [anticollCall, hkeeps]
  rfl

end Scan

/-- Settles O45: SCAN runs the exchanges of the single commands with a continuation of its own, so
where a reply does not reach the continuation it does what the single command does. -/
theorem scanMeaning : Obligations.ScanMeaning := by
  intro m s
  refine ⟨fun hp => ?start, fun rx bits hp ha => ?request, fun l rx bits hl hp ha => ?anticoll,
    fun l p hp => exec_scan_eq_select m hp, fun l rx bits hl h3 hp ha => ?select,
    fun l lo hi hl h3 hp ha => ?check⟩
  case start => exact (resume_start hp _ _).trans (resume_start hp _ _).symm
  case request =>
    have hscan : exec (.scan m) s = requestReply s s.working rx bits fun w =>
        anticollCall s w 1 := exec_scan_request m hp ha
    have hsingle : exec (.request m) s = requestReply s s.working rx bits (succeed s) :=
      resume_at hp ha _ _
    exact ⟨fun h => hscan.trans (requestReply_of_bits h),
      fun h => (hscan.trans (requestReply_of_other_bits h)).trans
        (hsingle.trans (requestReply_of_other_bits h)).symm⟩
  case anticoll =>
    have hscan : exec (.scan m) s = anticollReply s s.working l rx bits fun w =>
        if w.seq.ct then selectCall s w l else succeed s w := exec_scan_anticoll m hp ha
    have hsingle : exec (.anticoll l) s = anticollReply s s.working l rx bits (succeed s) :=
      resume_at hp ha _ _
    refine ⟨fun h hm => ?last, fun h hm h3 => ?goesOn, fun h => ?fails⟩
    case last =>
      have hs := hscan.trans (anticollReply_of_no_marker h hm)
      have hc := hsingle.trans (anticollReply_of_no_marker h hm)
      exact ⟨hs.trans hc.symm, _, hs, rfl, rfl, rfl, rfl, rfl, rfl⟩
    case goesOn =>
      have hs := (hscan.trans (anticollReply_of_marker h hm h3)).trans (if_pos rfl)
      refine ⟨_, hs.trans (selectCall_after_reply (b := five rx) ?_), rfl⟩
      exact SeqUnit.cl_setCl _ l (five rx)
    case fails => exact hscan.trans ((anticollReply_fails_alike h _).trans hsingle.symm)
  case select =>
    have hscan : exec (.scan m) s = selectReply s s.working l rx bits fun w =>
        anticollCall s w (l + 1) := exec_scan_selectTrx m hp ha
    have hsingle : exec (.select l) s = selectReply s s.working l rx bits (succeed s) :=
      resume_at hp ha _ _
    exact ⟨fun h hc => (hscan.trans (selectReply_of_unchecked h hc)).trans
        (anticollCall_next_level hl _),
      fun h => hscan.trans ((selectReply_fails_alike h _).trans hsingle.symm)⟩
  case check =>
    have hscan : exec (.scan m) s = selectCheck s s.working (pair16 lo hi) fun w =>
        anticollCall s w (l + 1) :=
      (exec_scan_selectChk m hp ha).trans (selectChkStep_read lo hi)
    have hsingle : exec (.select l) s = selectCheck s s.working (pair16 lo hi) (succeed s) :=
      resume_at hp ha _ _
    exact ⟨fun h => (hscan.trans (if_pos h)).trans (anticollCall_next_level hl _),
      fun h => (hscan.trans (if_neg h)).trans (hsingle.trans (if_neg h)).symm⟩

/-! ### AUTH (R188 to R191) -/

/-- Settles O46. -/
theorem authMeaning : Obligations.AuthMeaning := by
  intro k a s payload
  have hpayload : authPayload k a s.opsnap = payload := by rw [authPayload, keyByte_eq]; rfl
  refine ⟨fun hp hheld => ?held, fun hp hfree hno => ?state, fun hp hfree hready => ⟨?starts,
    fun hexec hw hd => ?makes⟩, fun hp ha => resume_at hp ha _ _, fun hp ha => resume_at hp ha _ _⟩
  case held => exact (resume_start hp _ _).trans (ite_of_true hheld)
  case state =>
    exact (resume_start hp _ _).trans ((ite_of_false hfree).trans (ite_of_false hno))
  case starts =>
    rw [← hpayload]
    exact (resume_start hp _ _).trans ((ite_of_false hfree).trans (ite_of_true hready))
  case makes => exact engineStep_makes (r := .authStart payload) hexec hw hd rfl

/-! ### The writes (R197 to R199) -/

/-- Settles O50: both exchanges end in the same test of the ACK. -/
theorem writeClassicMeaning : Obligations.WriteClassicMeaning := by
  intro a s
  refine ⟨fun hp hno => ?state, fun hp hready => ?starts, fun lo hi hp ha => ?command,
    fun lo hi hp ha => ?data, fun rx bits ha => ⟨fun hp hack => ?acked, fun hp hack => ?done, ?nak⟩⟩
  case state =>
    exact (resume_start hp _ _).trans (ite_of_false (by simp [classicReady, hno]))
  case starts =>
    exact (resume_start hp _ _).trans (ite_of_true (by simp [classicReady, hready]))
  case command =>
    rw [show [0xA0, a, lo, hi] = writeClassicFrame a ++ [lo, hi] from rfl, ← le16_pair16 lo hi]
    exact resume_at hp ha _ _
  case data =>
    rw [← le16_pair16 lo hi]
    exact resume_at hp ha _ _
  case acked => exact (resume_at hp ha _ _).trans (isAck_ite hack)
  case done => exact (resume_at hp ha _ _).trans (isAck_ite hack)
  case nak =>
    rintro (hp | hp) hnak
    · exact (resume_at hp ha _ _).trans (isAck_ite_not hnak)
    · exact (resume_at hp ha _ _).trans (isAck_ite_not hnak)

/-- Settles O51. -/
theorem writeNtagMeaning : Obligations.WriteNtagMeaning := by
  intro a s
  refine ⟨fun hp hno => ?state, fun hp hready => ?starts, fun lo hi hp ha => ?frame,
    fun rx bits hp ha => ⟨fun hack => ?acked, fun hnak => ?nak⟩⟩
  case state => exact (resume_start hp _ _).trans (ite_of_false hno)
  case starts => exact (resume_start hp _ _).trans (ite_of_true hready)
  case frame =>
    rw [← le16_pair16 lo hi]
    exact resume_at hp ha _ _
  case acked => exact (resume_at hp ha _ _).trans (isAck_ite hack)
  case nak => exact (resume_at hp ha _ _).trans (isAck_ite_not hnak)

end Sys2Proof.Machine

/-! PROOFS about the exchanges of the CRC and tag commands (20_memory.md R87, R90 to R92): at every
position a command takes its answer by the helper of its stage, so the start, the polls and the
early ends of an exchange are stated once for all commands. -/

namespace Sys2Proof.Machine

open Sys2Proof.Safety

/-! ### The helper at work (R90 to R92, R165, R186) -/

/-- The registers a failed command publishes: a tag command's after `session_abort`, a CRC command's
as they stand (R167, R186). -/
def endedRegs (i : Instr) (w : Regs) : Regs := if isTagCommand i = true then w.sessionAbort else w

/-- Command `i` takes answer `a` at primitive `p` of stage `x` by the stage's helper. -/
inductive ByHelper (i : Instr) (s : State) (p : Prim) (a : FeAns) : Stage → Prop
  | crc {x : Stage} {ret : BitVec 16 → Out} (helper : helperOf x = .crc)
      (takes : exec i s = crcStep s s.working x p a (failWith s (endedRegs i s.working)) ret) :
      ByHelper i s p a x
  | trx {x : Stage} {ret : List Byte → Nat → Out} (helper : helperOf x = .trx)
      (tag : isTagCommand i = true) (takes : exec i s = trxStep s s.working x p a ret) :
      ByHelper i s p a x
  | auth {ret : Out} (tag : isTagCommand i = true)
      (takes : exec i s = authStep s s.working p a ret) : ByHelper i s p a .auth

/-- A CRC command or a SEQ command other than STOPCRYPTO: the commands whose exchanges run by a
helper. -/
def HasExchanges (i : Instr) : Prop := isTagCommand i = true ∨ i = .crcCalc ∨ i = .crcCheck

section Helpers
variable {i : Instr} {s : State} {x : Stage} {p : Prim} {a : FeAns}

theorem byHelper_of_stage (hi : HasExchanges i) (hx : stageOf i x = true)
    (hp : s.pcSeq = .at x p) (ha : s.feAns = some a) : ByHelper i s p a x := by
  cases i with
  | crcCalc =>
    cases x with
    | crc => exact .crc rfl (resume_at hp ha _ _)
    | _ => cases hx
  | crcCheck =>
    cases x with
    | crc => exact .crc rfl (resume_at hp ha _ _)
    | _ => cases hx
  | request m =>
    cases x with
    | request => exact .trx rfl rfl (resume_at hp ha _ _)
    | _ => cases hx
  | anticoll l =>
    cases x with
    | anticoll k => exact .trx rfl rfl (resume_at hp ha _ _)
    | _ => cases hx
  | select l =>
    cases x with
    | selectCrc k => exact .crc rfl (resume_at hp ha _ _)
    | selectTrx k => exact .trx rfl rfl (resume_at hp ha _ _)
    | selectChk k => exact .crc rfl (resume_at hp ha _ _)
    | _ => cases hx
  | scan m =>
    cases x with
    | request => exact .trx rfl rfl (exec_scan_request m hp ha)
    | anticoll k => exact .trx rfl rfl (exec_scan_anticoll m hp ha)
    | selectCrc k => exact .crc rfl (exec_scan_selectCrc m hp ha)
    | selectTrx k => exact .trx rfl rfl (exec_scan_selectTrx m hp ha)
    | selectChk k => exact .crc rfl (exec_scan_selectChk m hp ha)
    | _ => cases hx
  | auth k b =>
    cases x with
    | auth => exact .auth rfl (resume_at hp ha _ _)
    | _ => cases hx
  | read c b =>
    cases x with
    | readCrc => exact .crc rfl (resume_at hp ha _ _)
    | readTrx => exact .trx rfl rfl (resume_at hp ha _ _)
    | readChk => exact .crc rfl (resume_at hp ha _ _)
    | _ => cases hx
  | writeClassic b =>
    cases x with
    | writeCrc => exact .crc rfl (resume_at hp ha _ _)
    | writeTrx => exact .trx rfl rfl (resume_at hp ha _ _)
    | dataCrc => exact .crc rfl (resume_at hp ha _ _)
    | dataTrx => exact .trx rfl rfl (resume_at hp ha _ _)
    | _ => cases hx
  | writeNtag b =>
    cases x with
    | writeCrc => exact .crc rfl (resume_at hp ha _ _)
    | writeTrx => exact .trx rfl rfl (resume_at hp ha _ _)
    | _ => cases hx
  | _ => simp [HasExchanges, isTagCommand] at hi

theorem endedRegs_of_tag (h : isTagCommand i = true) (w : Regs) :
    endedRegs i w = w.sessionAbort := if_pos h

theorem endedRegs_of_not_tag (h : isTagCommand i = false) (w : Regs) : endedRegs i w = w :=
  if_neg (by simp [h])

/-- The start's ACK goes to the first poll. -/
theorem ByHelper.acked (h : ByHelper i s .start .ack x) : ∃ r, primReq x .poll r = true ∧
    exec i s = .next ((s.setPoll 1).ask s.working x .poll r) := by
  cases h with
  | crc helper takes => exact ⟨.crcPoll, by simp [primReq, helper], takes⟩
  | trx helper _ takes => exact ⟨.trxPoll, by simp [primReq, helper], takes⟩
  | auth _ takes => exact ⟨.authPoll, rfl, takes⟩

/-- A poll not done below the bound goes to the next poll (R87). -/
theorem ByHelper.polls_again (h : ByHelper i s .poll .notdone x)
    (hn : s.pollcnt ≠ pollBound s x) : ∃ r, primReq x .poll r = true ∧
      exec i s = .next ((s.setPoll (s.pollcnt + 1)).ask s.working x .poll r) := by
  cases h with
  | crc helper takes =>
    have hn : s.pollcnt ≠ Config.crcPollMax := by simpa [pollBound, helper] using hn
    exact ⟨.crcPoll, by simp [primReq, helper], takes.trans (if_neg hn)⟩
  | trx helper _ takes =>
    have hn : s.pollcnt ≠ s.params.fePollMax := by simpa [pollBound, helper] using hn
    exact ⟨.trxPoll, by simp [primReq, helper], takes.trans (if_neg hn)⟩
  | auth _ takes => exact ⟨.authPoll, rfl, takes.trans (if_neg hn)⟩

/-- A poll that is done goes to the read. -/
theorem ByHelper.polled (h : ByHelper i s .poll .done x) : ∃ r, primReq x .read r = true ∧
    exec i s = .next (s.ask s.working x .read r) := by
  cases h with
  | crc helper takes => exact ⟨.crcRead, by simp [primReq, helper], takes⟩
  | trx helper _ takes => exact ⟨.trxRead, by simp [primReq, helper], takes⟩
  | auth _ takes => exact ⟨.cryptoStatus, rfl, takes⟩

/-- A bus failure ends the command at any primitive (R79). -/
theorem ByHelper.busfail (h : ByHelper i s p .busfail x) :
    exec i s = .next (s.finish (endedRegs i s.working) .error .transport .feBus) := by
  cases h with
  | crc _ takes => exact takes.trans crcStep_busfail
  | trx _ tag takes =>
    rw [endedRegs_of_tag tag]
    exact takes.trans trxStep_busfail
  | auth tag takes =>
    rw [endedRegs_of_tag tag]
    exact takes.trans authStep_busfail

theorem ByHelper.noresp (h : ByHelper i s .poll .noresp x) (hx : helperOf x ≠ .crc) :
    exec i s = .next (s.finish s.working.tagGone .notag .none .noResponse) := by
  cases h with
  | crc helper _ => exact absurd helper hx
  | trx _ _ takes => exact takes
  | auth _ takes => exact takes

theorem ByHelper.fault (h : ByHelper i s .poll .fault x) (hx : helperOf x ≠ .crc) :
    exec i s = .next (s.finish (endedRegs i s.working) .error .protocol .feFault) := by
  cases h with
  | crc helper _ => exact absurd helper hx
  | trx _ tag takes => rw [endedRegs_of_tag tag]; exact takes
  | auth tag takes => rw [endedRegs_of_tag tag]; exact takes

/-- The bound's last poll not done (R87, R91, R92). -/
theorem ByHelper.timeout (h : ByHelper i s .poll .notdone x) (hx : helperOf x ≠ .crc)
    (hn : s.pollcnt = s.params.fePollMax) :
    exec i s = .next (s.finish (endedRegs i s.working) .error .protocol .fePollTimeout) := by
  cases h with
  | crc helper _ => exact absurd helper hx
  | trx _ tag takes => rw [endedRegs_of_tag tag]; exact takes.trans (if_pos hn)
  | auth tag takes => rw [endedRegs_of_tag tag]; exact takes.trans (if_pos hn)

/-- The last CRC poll not done (R87, R165). -/
theorem ByHelper.crc_timeout (h : ByHelper i s .poll .notdone x) (hx : helperOf x = .crc)
    (hn : s.pollcnt = 255) :
    exec i s = .next (s.finish (endedRegs i s.working) .error .protocol .crcPollTimeout) := by
  cases h with
  | crc _ takes => exact takes.trans (if_pos hn)
  | trx helper _ _ => simp [helper] at hx
  | auth _ _ => cases hx

end Helpers

/-! ### Conversations (R116, R120) -/

/-- Command `i` runs with nothing at the front-end: the engine's next turn is its next internal
computation, and the request that computation prepares can be made. -/
structure OnTurn (i : Instr) (s : State) : Prop where
  phase : s.phase = .exec
  word : decode s.cur = .ok i
  noReq : s.feReq = none
  noWait : s.feWait = false
  noDiscard : s.feDiscard = false

/-- The state in which answer `a` at primitive `p` of stage `x` has just come, with poll count `n`
and working copies `w`. -/
def State.answered (s : State) (n : Nat) (w : Regs) (x : Stage) (p : Prim) (a : FeAns) : State :=
  { s with
    work := some w, pcSeq := .at x p, pollcnt := n, feReq := none, feWait := false
    feAns := some a }

section Conversations
variable {i : Instr} {s : State} {n k : Nat} {w : Regs} {x : Stage} {p : Prim} {a b : FeAns}
  {r : FeReq} {as : List FeAns}

theorem OnTurn.of_fresh (h : Fresh i s) : OnTurn i s :=
  ⟨h.phase, h.word, h.noReq, h.noWait, h.noDiscard⟩

theorem OnTurn.answered (h : OnTurn i s) : OnTurn i (s.answered n w x p a) :=
  ⟨h.phase, h.word, rfl, rfl, h.noDiscard⟩

theorem OnTurn.turn_eq_exec (h : OnTurn i s) : engineStep s = exec i s :=
  engineStep_runs h.phase h.noWait h.noReq h.word

/-! The data of a start request is no part of its alphabet (R80, R83, R86). -/

theorem accepts_crcStart_data (d : List Byte) :
    (FeReq.crcStart d).accepts a = (FeReq.crcStart []).accepts a := by cases a <;> rfl

theorem accepts_trxStart_data (d : List Byte) (m : BitVec 3) :
    (FeReq.trxStart d m).accepts a = (FeReq.trxStart [] 0).accepts a := by cases a <;> rfl

theorem accepts_authStart_data (d : List Byte) :
    (FeReq.authStart d).accepts a = (FeReq.authStart []).accepts a := by cases a <;> rfl

/-- The alphabet of a position is that of its request (R80 to R86). -/
theorem accepts_of_primAns (hr : primReq x p r = true) (ha : primAns x p a = true) :
    r.accepts a = true := by
  unfold primReq at hr
  split at hr <;> simp_all [primAns]
  · exact (accepts_crcStart_data _).trans ha
  · exact (accepts_trxStart_data _ _).trans ha
  · exact (accepts_authStart_data _).trans ha

/-- A computation that prepares a request, the request, and its answer. -/
theorem OnTurn.converse_asks (h : OnTurn i s)
    (hexec : exec i s = .next ((s.setPoll n).ask w x p r)) (ha : r.accepts a = true)
    (hr : ∀ d, r ≠ .authStart d) :
    converse (a :: as) s = converse as (s.answered n w x p a) :=
  converse_cons (t := (s.setPoll n).ask w x p r) as (h.turn_eq_exec.trans hexec) h.phase h.noWait
    h.noDiscard rfl ha hr

/-- The same past the start of an exchange, where the alphabet is that of the position. -/
theorem OnTurn.converse_goesOn (h : OnTurn i s)
    (hexec : ∃ r, primReq x p r = true ∧ exec i s = .next ((s.setPoll n).ask w x p r))
    (hp : p ≠ .start) (ha : primAns x p a = true) :
    converse (a :: as) s = converse as (s.answered n w x p a) := by
  obtain ⟨r, hreq, hexec⟩ := hexec
  refine h.converse_asks hexec (accepts_of_primAns hreq ha) ?_
  rintro d rfl
  exact hp (eq_auth_start_of_primReq hreq).2

section Exchange
variable (h : OnTurn i s) (hi : HasExchanges i) (hx : stageOf i x = true)
include h hi hx

theorem converse_first_poll (ha : primAns x .poll a = true) :
    converse (a :: as) (s.answered n w x .start .ack) =
      converse as (s.answered 1 w x .poll a) :=
  h.answered.converse_goesOn (byHelper_of_stage hi hx rfl rfl).acked (by decide) ha

theorem converse_next_poll (hn : n ≠ pollBound s x) (ha : primAns x .poll a = true) :
    converse (a :: as) (s.answered n w x .poll .notdone) =
      converse as (s.answered (n + 1) w x .poll a) :=
  h.answered.converse_goesOn ((byHelper_of_stage hi hx rfl rfl).polls_again hn) (by decide) ha

theorem converse_read (ha : primAns x .read a = true) :
    converse (a :: as) (s.answered n w x .poll .done) =
      converse as (s.answered n w x .read a) :=
  h.answered.converse_goesOn (byHelper_of_stage hi hx rfl rfl).polled (by decide) ha

/-- Some polls not done, from one not done on, while the count stays under the bound (R87). -/
theorem converse_more_polls (hd : primAns x .poll .notdone = true)
    (ha : primAns x .poll a = true) (hk : n + k < pollBound s x) :
    converse (List.replicate k .notdone ++ a :: as) (s.answered n w x .poll .notdone) =
      converse as (s.answered (n + k + 1) w x .poll a) := by
  induction k generalizing n with
  | zero => exact converse_next_poll h hi hx (by omega) ha
  | succ k ih =>
    rw [List.replicate_succ, List.cons_append, converse_next_poll h hi hx (by omega) hd,
      ih (by omega), Nat.add_right_comm n 1 k, Nat.add_assoc n k 1]

/-- The polls of an exchange: `k` not done, then answer `a` (R87). -/
theorem converse_polls (hd : primAns x .poll .notdone = true) (ha : primAns x .poll a = true)
    (hk : k < pollBound s x) :
    converse (List.replicate k .notdone ++ a :: as) (s.answered n w x .start .ack) =
      converse as (s.answered (k + 1) w x .poll a) := by
  cases k with
  | zero => exact converse_first_poll h hi hx ha
  | succ k =>
    rw [List.replicate_succ, List.cons_append, converse_first_poll h hi hx hd,
      converse_more_polls h hi hx hd ha (by omega), Nat.add_comm 1 k]

/-- A whole exchange whose first poll is done. -/
theorem converse_prompt (hd : primAns x .poll .done = true) (ha : primAns x .read a = true) :
    converse (.done :: a :: as) (s.answered n w x .start .ack) =
      converse as (s.answered 1 w x .read a) :=
  (converse_first_poll h hi hx hd).trans (converse_read h hi hx ha)

/-- A bus failure in hand ends the command (R79). -/
theorem converse_busfail : converse [] (s.answered n w x p .busfail) =
    .next ((s.answered n w x p .busfail).finish (endedRegs i w) .error .transport .feBus) :=
  h.answered.turn_eq_exec.trans (byHelper_of_stage hi hx rfl rfl).busfail

end Exchange

end Conversations

end Sys2Proof.Machine

/-! PROOFS about whole conversations of a command with the front-end (43_crc16.md R164 to R168,
44_iso14443_anticoll.md R180, 45_iso14443_auth_rw.md R188 to R196): the exchanges one after another,
and the finish. -/

namespace Sys2Proof.Machine

open Sys2Proof.Safety

section Openings
variable {i : Instr} {s : State} {w : Regs} {x : Stage} {a : FeAns} {r : FeReq} {as : List FeAns}

/-- A whole exchange whose first poll is done, from the computation that prepares its start. -/
theorem OnTurn.converse_exchange (h : OnTurn i s) (hi : HasExchanges i) (hx : stageOf i x = true)
    (hexec : exec i s = .next (s.ask w x .start r)) (hr : ∀ d, r ≠ .authStart d)
    (hack : r.accepts .ack = true) (hd : primAns x .poll .done = true)
    (ha : primAns x .read a = true) :
    converse (.ack :: .done :: a :: as) s = converse as (s.answered 1 w x .read a) :=
  (h.converse_asks (n := s.pollcnt) hexec hack hr).trans (converse_prompt h hi hx hd ha)

/-- The last computation of a conversation. -/
theorem OnTurn.converse_nil (h : OnTurn i s) : converse [] s = exec i s := h.turn_eq_exec

end Openings

/-! ### CRC_CALC and CRC_CHECK (R164 to R167) -/

/-- A CRC command whose length is legal (R164, R166). -/
def LegalCrc (i : Instr) (s : State) : Prop :=
  i = .crcCalc ∧ s.opsnap.len.toNat ≤ 32 ∨
    i = .crcCheck ∧ 3 ≤ s.opsnap.len.toNat ∧ s.opsnap.len.toNat ≤ 32

section Crc
variable {i : Instr} {s : State} {k : Nat} {a : FeAns} {as : List FeAns}

theorem LegalCrc.hasExchanges (h : LegalCrc i s) : HasExchanges i := by
  obtain ⟨rfl, -⟩ | ⟨rfl, -⟩ := h
  · exact .inr (.inl rfl)
  · exact .inr (.inr rfl)

theorem LegalCrc.stage (h : LegalCrc i s) : stageOf i .crc = true := by
  obtain ⟨rfl, -⟩ | ⟨rfl, -⟩ := h <;> rfl

/-- A CRC command keeps the session when it fails (R167). -/
theorem LegalCrc.endedRegs (h : LegalCrc i s) (w : Regs) : endedRegs i w = w := by
  obtain ⟨rfl, -⟩ | ⟨rfl, -⟩ := h <;> exact endedRegs_of_not_tag rfl w

theorem LegalCrc.starts (h : LegalCrc i s) (hp : s.pcSeq = .start) :
    ∃ d, exec i s = .next (s.ask s.regs .crc .start (.crcStart d)) := by
  obtain ⟨rfl, h32⟩ | ⟨rfl, h3, h32⟩ := h
  · obtain ⟨-, hstart, -⟩ := crcCalcPublishesTheCrc s
    exact ⟨_, hstart hp h32⟩
  · obtain ⟨-, hstart, -⟩ := crcCheckComparesTheCrc s
    exact ⟨_, hstart hp h3 h32⟩

theorem converse_crc_start (h : LegalCrc i s) (hf : Fresh i s)
    (ha : primAns .crc .start a = true) :
    converse (a :: as) s = converse as (s.answered s.pollcnt s.regs .crc .start a) := by
  obtain ⟨d, hexec⟩ := h.starts hf.pos
  exact (OnTurn.of_fresh hf).converse_asks hexec ((accepts_crcStart_data d).trans ha) nofun

theorem converse_crc_polls (h : LegalCrc i s) (hf : Fresh i s) (hk : k < 255)
    (ha : primAns .crc .poll a = true) :
    converse ([.ack] ++ List.replicate k .notdone ++ a :: as) s =
      converse as (s.answered (k + 1) s.regs .crc .poll a) :=
  (converse_crc_start h hf rfl).trans
    (converse_polls (OnTurn.of_fresh hf) h.hasExchanges h.stage rfl ha hk)

theorem converse_crc_read (h : LegalCrc i s) (hf : Fresh i s) (hk : k < 255)
    (ha : primAns .crc .read a = true) :
    converse ([.ack] ++ List.replicate k .notdone ++ .done :: a :: as) s =
      converse as (s.answered (k + 1) s.regs .crc .read a) :=
  (converse_crc_polls h hf hk rfl).trans
    (converse_read (OnTurn.of_fresh hf) h.hasExchanges h.stage ha)

/-- Settles O37. -/
theorem crcCalcConversation : Obligations.CrcCalcConversation := by
  intro s k lo hi hf hlen hk
  have hread : converse ([.ack] ++ List.replicate k .notdone ++ [.done, .res lo hi]) s =
      converse [] (s.answered (k + 1) s.regs .crc .read (.res lo hi)) :=
    converse_crc_read (.inl ⟨rfl, hlen⟩) hf hk rfl
  obtain ⟨-, -, hpublish⟩ := crcCalcPublishesTheCrc
    (s.answered (k + 1) s.regs .crc .read (.res lo hi))
  exact ⟨_, hread.trans ((OnTurn.of_fresh hf).answered.converse_nil.trans
    (hpublish lo hi rfl rfl)), rfl, rfl, rfl, rfl⟩

/-- Settles O38: the 255th poll not done meets the bound. -/
theorem crcPollTimesOutAfter255 : Obligations.CrcPollTimesOutAfter255 := by
  intro s i h hf
  have hlegal : LegalCrc i s := h
  have hpolls : converse ([.ack] ++ List.replicate 255 .notdone) s =
      converse [] (s.answered 255 s.regs .crc .poll .notdone) := by
    rw [List.replicate_succ' (n := 254), ← List.append_assoc]
    exact converse_crc_polls hlegal hf (by decide) rfl
  have hturn : OnTurn i (s.answered 255 s.regs .crc .poll .notdone) := (OnTurn.of_fresh hf).answered
  have hends := (byHelper_of_stage (s := s.answered 255 s.regs .crc .poll .notdone)
    hlegal.hasExchanges hlegal.stage rfl rfl).crc_timeout rfl rfl
  exact ⟨_, hpolls.trans (hturn.converse_nil.trans hends), rfl, rfl, rfl, rfl,
    hlegal.endedRegs s.regs⟩

/-- A CRC command that meets a bus failure publishes its working copies, which it has not written
yet. -/
theorem converse_crc_busfail {n : Nat} {p : Prim} (h : LegalCrc i s) (hf : Fresh i s)
    (has : converse as s = converse [] (s.answered n s.regs .crc p .busfail)) :
    ∃ t, converse as s = .next t ∧ t.phase = .idle ∧ t.result = .error ∧
      t.errClass = .transport ∧ t.cause = .feBus ∧ t.regs = s.regs :=
  ⟨_, has.trans (converse_busfail (OnTurn.of_fresh hf) h.hasExchanges h.stage), rfl, rfl, rfl,
    rfl, h.endedRegs s.regs⟩

/-- Settles O53: the exchanges are those of the helpers, and a CRC command that meets a bus failure
has published nothing. -/
theorem exchangesRunAsTheHelpersSay : Obligations.ExchangesRunAsTheHelpersSay := by
  refine ⟨fun i s x p hi hx hp => ?exchange, fun s i k h hf hk as has => ?crc⟩
  case exchange =>
    have helper {a : FeAns} (ha : s.feAns = some a) : ByHelper i s p a x :=
      byHelper_of_stage hi hx hp ha
    refine ⟨?_, ?_, ?_, fun ha => (helper ha).busfail, ?_, ?_, ?_, ?_⟩
    · rintro rfl ha
      exact (helper ha).acked
    · rintro rfl ha hn
      exact (helper ha).polls_again hn
    · rintro rfl ha
      exact (helper ha).polled
    · rintro hx rfl ha
      exact (helper ha).noresp hx
    · rintro hx rfl ha
      exact (helper ha).fault hx
    · rintro hx rfl ha hn
      exact (helper ha).timeout hx hn
    · rintro hx rfl ha hn
      exact (helper ha).crc_timeout hx hn
  case crc =>
    have hlegal : LegalCrc i s := h
    simp only [List.mem_cons, List.not_mem_nil, or_false] at has
    obtain rfl | rfl | rfl := has
    · exact converse_crc_busfail hlegal hf (converse_crc_start hlegal hf rfl)
    · exact converse_crc_busfail hlegal hf (converse_crc_polls hlegal hf hk rfl)
    · exact converse_crc_busfail hlegal hf (converse_crc_read hlegal hf hk rfl)

end Crc

/-! ### A conforming front-end (R168) -/

section Conforming
variable {fn : List Byte → BitVec 16} {i : Instr} {s : State} {m n : Nat} {data : List Byte}

theorem accepts_conformingAns (r : FeReq) : r.accepts (conformingAns fn data r).2 = true := by
  cases r <;> rfl

/-- Three steps against a conforming front-end: the computation that prepares a request, the
request, and its answer. -/
theorem OnTurn.serve_asks (h : OnTurn i s) {w : Regs} {x : Stage} {p : Prim} {r : FeReq}
    (hexec : exec i s = .next ((s.setPoll n).ask w x p r)) (hr : ∀ d, r ≠ .authStart d) :
    serveConforming fn (m + 3) data s = serveConforming fn m (conformingAns fn data r).1
      (s.answered n w x p (conformingAns fn data r).2) := by
  let t := (s.setPoll n).ask w x p r
  have hmakes : engineStep t = .next { t with feWait := true } :=
    (engineStep_makes (s := t) h.phase h.noWait h.noDiscard rfl).trans
      (congrArg _ (State.issue_of_not_authStart t r hr))
  have hanswer := frontEnd_accepts (s := { t with feWait := true })
    (a := (conformingAns fn data r).2) rfl h.noDiscard rfl (accepts_conformingAns r)
  calc serveConforming fn (m + 3) data s
    _ = serveConforming fn (m + 2) data t :=
      serveConforming_engine h.phase h.noWait (h.turn_eq_exec.trans hexec)
    _ = serveConforming fn (m + 1) data { t with feWait := true } :=
      serveConforming_engine (s := t) h.phase h.noWait hmakes
    _ = serveConforming fn m (conformingAns fn data r).1
          (s.answered n w x p (conformingAns fn data r).2) :=
      serveConforming_answer (s := { t with feWait := true }) h.phase rfl rfl hanswer

/-- A whole CRC exchange with a conforming front-end ends at the read of `fn` of the data. -/
theorem serve_crcCheck (hf : Fresh .crcCheck s) {d : List Byte}
    (hstart : exec .crcCheck s = .next (s.ask s.regs .crc .start (.crcStart d))) :
    serveConforming fn (m + 9) data s =
      serveConforming fn m d (s.answered 1 s.regs .crc .read (conformingRes fn d)) := by
  have h := OnTurn.of_fresh hf
  calc serveConforming fn (m + 9) data s
    _ = serveConforming fn (m + 6) d (s.answered s.pollcnt s.regs .crc .start .ack) :=
      h.serve_asks (n := s.pollcnt) hstart nofun
    _ = serveConforming fn (m + 3) d (s.answered 1 s.regs .crc .poll .done) :=
      h.answered.serve_asks (r := .crcPoll) rfl nofun
    _ = serveConforming fn m d (s.answered 1 s.regs .crc .read (conformingRes fn d)) :=
      h.answered.serve_asks (r := .crcRead) (n := 1) rfl nofun

/-- The two bytes of a CRC make it up again, the low byte first (R68, R82). -/
theorem append_crcBytes (c : BitVec 16) : c.extractLsb' 8 8 ++ c.extractLsb' 0 8 = c :=
  BitVec.extractLsb'_append_extractLsb' (w := 8) (len := 8)

theorem dbufAt_of_take {v : Vector Byte 32} {j k : Nat} {bs : List Byte}
    (h : v.toList.take k = bs) (hj : j < k) : dbufAt v j = bs[j]?.getD 0 := by
  rw [← h, List.getElem?_take_of_lt hj, Vector.getElem?_toList]
  rfl

/-- Settles O40: ten steps, the last of which compares `fn d` with the two bytes after the frame. -/
theorem conformingFrontEndPassesCrcCheck : Obligations.ConformingFrontEndPassesCrcCheck := by
  intro fn s held d lo hi hf h1 h30 hlen hbytes
  have hlo : dbufAt s.opsnap.dbuf d.length = lo := by
    simpa using dbufAt_of_take (j := d.length) hbytes (by omega)
  have hhi : dbufAt s.opsnap.dbuf (d.length + 1) = hi := by
    simpa using dbufAt_of_take (j := d.length + 1) hbytes (by omega)
  have hframe : s.opsnap.dbuf.toList.take d.length = d := by
    simpa [List.take_take] using congrArg (List.take d.length) hbytes
  obtain ⟨-, hstart, -⟩ := crcCheckComparesTheCrc s
  have hstart := hstart hf.pos (by omega) (by omega)
  rw [hlen, Nat.add_sub_cancel, hframe] at hstart
  let t := s.answered 1 s.regs .crc .read (conformingRes fn d)
  have hturn : OnTurn .crcCheck t := (OnTurn.of_fresh hf).answered
  have hlast {u : State} (hexec : exec .crcCheck t = .next u) :
      serveConforming fn 10 held s = .next u :=
    (serve_crcCheck (m := 1) hf hstart).trans
      (serveConforming_engine hturn.phase hturn.noWait (hturn.turn_eq_exec.trans hexec))
  obtain ⟨-, -, hcompare⟩ := crcCheckComparesTheCrc t
  obtain ⟨hmatch, hmismatch⟩ := hcompare _ _ rfl rfl
  have hwant : dbufAt t.opsnap.dbuf (t.opsnap.len.toNat - 1) ++
      dbufAt t.opsnap.dbuf (t.opsnap.len.toNat - 2) = hi ++ lo := by
    rw [show t.opsnap = s.opsnap from rfl, hlen, show d.length + 2 - 1 = d.length + 1 from rfl,
      Nat.add_sub_cancel, hlo, hhi]
  rw [hwant, append_crcBytes] at hmatch hmismatch
  by_cases heq : hi ++ lo = fn d
  · exact ⟨_, hlast (hmatch heq.symm), rfl, rfl, fun _ => ⟨rfl, rfl, rfl⟩, fun h => absurd heq h⟩
  · exact ⟨_, hlast (hmismatch (Ne.symm heq)), rfl, rfl, fun h => absurd h heq,
      fun _ => ⟨rfl, rfl, rfl⟩⟩

end Conforming

/-! ### AUTH and STOPCRYPTO (R188 to R194) -/

section Crypto
variable {s : State} {kt : KeyType} {b : Byte} {as : List FeAns}

/-- AUTH's first request is made with the direct write of CRYPTO_HELD (R191). -/
theorem converse_auth_start (hf : Fresh (.auth kt b) s) {d : List Byte}
    (hexec : exec (.auth kt b) s = .next (s.ask s.regs .auth .start (.authStart d))) :
    converse (.ack :: as) s = converse as
      (({ s with regs := s.regs.holdCrypto } : State).answered s.pollcnt s.regs.holdCrypto
        .auth .start .ack) := by
  have hmakes := engineStep_makes (s := s.ask s.regs .auth .start (.authStart d)) hf.phase
    hf.noWait hf.noDiscard rfl
  have hanswer := frontEnd_accepts (a := .ack)
    (s := (s.ask s.regs .auth .start (.authStart d)).issue (.authStart d)) rfl hf.noDiscard rfl rfl
  simp only [converse, (OnTurn.of_fresh hf).turn_eq_exec, hexec, andThen, hmakes, hanswer]
  rfl

/-- Settles O47. -/
theorem authConversation : Obligations.AuthConversation := by
  intro s kt b k hf hfree hstate hvalid hk
  obtain ⟨-, -, hstart, -⟩ := authMeaning kt b s
  obtain ⟨hexec, -⟩ := hstart hf.pos hfree (by simp [authReady, hstate, hvalid])
  let u : State := { s with regs := s.regs.holdCrypto }
  have hturn : OnTurn (.auth kt b) u := ⟨hf.phase, hf.word, hf.noReq, hf.noWait, hf.noDiscard⟩
  let t := u.answered (k + 1) s.regs.holdCrypto .auth .read .on
  obtain ⟨-, -, -, hon, -⟩ := authMeaning kt b t
  have hrun :=
    calc converse ([.ack] ++ List.replicate k .notdone ++ [.done, .on]) s
      _ = converse (List.replicate k .notdone ++ [.done, .on])
          (u.answered s.pollcnt s.regs.holdCrypto .auth .start .ack) :=
        converse_auth_start hf hexec
      _ = converse [.on] (u.answered (k + 1) s.regs.holdCrypto .auth .poll .done) :=
        converse_polls hturn (.inl rfl) rfl rfl rfl hk
      _ = converse [] t := converse_read hturn (.inl rfl) rfl rfl
      _ = exec (.auth kt b) t := hturn.answered.converse_nil
  exact ⟨_, hrun.trans (hon rfl rfl), rfl, rfl, rfl, rfl⟩

/-- Settles O48: one request, and the writes that preceded it are published on either answer. -/
theorem stopCryptoReleases : Obligations.StopCryptoReleases := by
  intro s
  have hstart (hp : s.pcSeq = .start) : exec .stopCrypto s =
      .next (s.ask (s.regs.setSeq s.regs.seq.release) .cryptoOff .start .cryptoOff) :=
    resume_start hp _ _
  refine ⟨hstart, fun hp ha => resume_at hp ha _ _, fun hp ha => resume_at hp ha _ _,
    fun hf a ha => ?_⟩
  have hturn := OnTurn.of_fresh hf
  have hrun (ha : FeReq.cryptoOff.accepts a = true) :=
    (hturn.converse_asks (as := []) (n := s.pollcnt) (hstart hf.pos) ha nofun).trans
      hturn.answered.converse_nil
  obtain rfl | rfl := ha
  · exact ⟨_, (hrun rfl).trans rfl, rfl, rfl⟩
  · exact ⟨_, (hrun rfl).trans rfl, rfl, rfl⟩

end Crypto

/-! ### READ (R195, R196) -/

/-- A whole READ without the check of the reply's CRC (R195). -/
theorem converse_read_command {c : CardKind} {b : Byte} {s : State} {lo hi : Byte} {rx : List Byte}
    (hf : Fresh (.read c b) s) (hready : readReady c s.regs.seq = true)
    (hunchecked : s.params.checkRxCrc = false) (hlen : rx.length = 18) :
    ∃ t : State, converse [.ack, .done, .res lo hi, .ack, .done, .rx rx 144] s =
      .next (t.finish (s.regs.loadDbuf rx) .ok .none .none) := by
  have h := OnTurn.of_fresh hf
  have hrx : primAns .readTrx .read (.rx rx 144) = true := by simp [primAns, helperOf, hlen]
  let t := s.answered 1 s.regs .readTrx .read (.rx rx 144)
  have hreply : exec (.read c b) t = readReply t s.regs rx 144 := rfl
  refine ⟨t, ?_⟩
  calc converse [.ack, .done, .res lo hi, .ack, .done, .rx rx 144] s
    _ = converse [.ack, .done, .rx rx 144] (s.answered 1 s.regs .readCrc .read (.res lo hi)) :=
      h.converse_exchange (.inl rfl) rfl ((resume_start hf.pos _ _).trans (ite_of_true hready))
        nofun rfl rfl rfl
    _ = converse [] t :=
      h.answered.converse_exchange (.inl rfl) rfl rfl nofun rfl rfl hrx
    _ = exec (.read c b) t := h.answered.converse_nil
    _ = .next (t.finish (s.regs.loadDbuf rx) .ok .none .none) :=
      hreply.trans (readReply_of_unchecked rfl hunchecked)

/-- Settles O49: the start, the frame with its CRC, the reply and its check; and the whole run. -/
theorem readMeaning : Obligations.ReadMeaning := by
  intro c b s
  refine ⟨fun hp hno => ?state, fun hp hready => ?starts, fun lo hi hp ha => ?frame,
    fun rx bits hp ha => ?reply, fun lo hi hp ha => ?check,
    fun rx => ⟨rfl, dbufAt_load16 s.working.ops.dbuf rx⟩,
    fun lo hi rx hf hready hunchecked hlen => ?run⟩
  case state => exact (resume_start hp _ _).trans (ite_of_false hno)
  case starts => exact (resume_start hp _ _).trans (ite_of_true hready)
  case frame =>
    rw [show [0x30, b, lo, hi] = readFrame b ++ [lo, hi] from rfl, ← le16_pair16 lo hi]
    exact resume_at hp ha _ _
  case reply =>
    have hexec : exec (.read c b) s = readReply s s.working rx bits := resume_at hp ha _ _
    exact ⟨fun h => hexec.trans (readReply_of_nak h),
      fun h4 h => hexec.trans (readReply_of_length h4 h),
      fun h hc => hexec.trans (readReply_of_checked h hc),
      fun h hc => hexec.trans (readReply_of_unchecked h hc)⟩
  case check =>
    exact ⟨fun h => (resume_at hp ha _ _).trans (if_pos h),
      fun h => (resume_at hp ha _ _).trans (if_neg h)⟩
  case run =>
    obtain ⟨t, ht⟩ := converse_read_command hf hready hunchecked hlen
    exact ⟨_, dbufLoad16 s.regs.ops.dbuf rx, ht, rfl, rfl, rfl, rfl, dbufAt_load16 _ rx⟩

end Sys2Proof.Machine

/-! PROOFS about a whole SCAN (44_iso14443_anticoll.md R175, R180, R181): what each of its exchanges
passes on to the next, and the two-level cascade that they make up. -/

namespace Sys2Proof.Machine

open Sys2Proof.Safety

/-! ### From one exchange of SCAN to the next (R180)

Each lemma starts with the reply of one exchange in hand and ends with that of the next. -/

section Legs
variable {m : ReqMode} {s : State} {n : Nat} {w : Regs} {l : BitVec 2} {rx rx' : List Byte}
  {bits bits' : Nat} {as : List FeAns} (h : OnTurn (.scan m) s)

/-- The first exchange is REQUEST's (R171). -/
theorem scan_to_request (hf : Fresh (.scan m) s) (hfree : s.regs.seq.cryptoHeld = false)
    (hrx : FeReq.trxRead.accepts (.rx rx bits) = true) :
    converse (.ack :: .done :: .rx rx bits :: as) s =
      converse as (s.answered 1 (s.regs.setSeq s.regs.seq.clearForRequest) .request .read
        (.rx rx bits)) :=
  (OnTurn.of_fresh hf).converse_exchange (.inl rfl) rfl
    ((resume_start hf.pos _ _).trans (ite_of_false hfree)) nofun rfl rfl hrx

include h

/-- A 16-bit reply of REQUEST goes on to the level-1 anticollision. -/
theorem scan_request_to_anticoll (hrx : FeReq.trxRead.accepts (.rx rx' bits') = true) :
    converse (.ack :: .done :: .rx rx' bits' :: as)
        (s.answered n w .request .read (.rx rx 16)) =
      converse as (s.answered 1 (w.setSeq { w.seq with
        atqa := byteAt rx 1 ++ byteAt rx 0, state := .requested, uid := [], uidValid := false })
        (.anticoll 1) .read (.rx rx' bits')) :=
  h.answered.converse_exchange (.inl rfl) rfl rfl nofun rfl rfl hrx

omit h in
/-- What SCAN makes of a good anticollision reply (R180). -/
theorem exec_scan_good_reply (hgood : GoodReply rx bits)
    (hdepth : ¬(byteAt rx 0 = cascadeTag ∧ l = 3)) :
    let t := s.answered n w (.anticoll l) .read (.rx rx bits)
    let w' := w.setSeq (w.seq.takeReply l rx)
    exec (.scan m) t = if w'.seq.ct then selectCall t w' l else succeed t w' := by
  intro t w'
  have hreply : exec (.scan m) t = anticollReply t w l rx bits fun v =>
      if v.seq.ct then selectCall t v l else succeed t v := rfl
  exact hreply.trans ((anticollReply_of_good hgood).trans (if_neg hdepth))

/-- A reply with the cascade marker goes on to the level's SELECT frame. -/
theorem scan_anticoll_to_selectCrc (hl : l = 1 ∨ l = 2) (hgood : GoodReply rx bits)
    (hm : byteAt rx 0 = cascadeTag) (lo hi : Byte) :
    converse (.ack :: .done :: .res lo hi :: as)
        (s.answered n w (.anticoll l) .read (.rx rx bits)) =
      converse as (s.answered 1 (w.setSeq (w.seq.takeReply l rx)) (.selectCrc l) .read
        (.res lo hi)) := by
  have hstage : stageOf (.scan m) (.selectCrc l) = true := by
    obtain rfl | rfl := hl <;> rfl
  have hdepth : l ≠ 3 := by
    obtain rfl | rfl := hl <;> decide
  have hct : (w.seq.takeReply l rx).ct = true := by rw [SeqUnit.takeReply_of_marker hm]
  have hexec := (exec_scan_good_reply (m := m) (s := s) (n := n) hgood fun hd => hdepth hd.2).trans
    (if_pos hct)
  exact h.answered.converse_exchange (.inl rfl) hstage hexec nofun rfl rfl rfl

/-- The CRC of the SELECT frame goes out with it. -/
theorem scan_selectCrc_to_selectTrx (hl : l = 1 ∨ l = 2) (lo hi : Byte)
    (hrx : FeReq.trxRead.accepts (.rx rx bits) = true) :
    converse (.ack :: .done :: .rx rx bits :: as)
        (s.answered n w (.selectCrc l) .read (.res lo hi)) =
      converse as (s.answered 1 w (.selectTrx l) .read (.rx rx bits)) := by
  have hstage : stageOf (.scan m) (.selectTrx l) = true := by
    obtain rfl | rfl := hl <;> rfl
  exact h.answered.converse_exchange (.inl rfl) hstage rfl nofun rfl rfl hrx

/-- A SELECT whose reply is not checked goes on to the next level's anticollision. -/
theorem scan_selectTrx_to_anticoll (hl : l = 1 ∨ l = 2) (hunchecked : s.params.checkRxCrc = false)
    (hrx : FeReq.trxRead.accepts (.rx rx' bits') = true) :
    converse (.ack :: .done :: .rx rx' bits' :: as)
        (s.answered n w (.selectTrx l) .read (.rx rx 24)) =
      converse as (s.answered 1 (w.setSeq { w.seq with sak := byteAt rx 0, state := .selected })
        (.anticoll (l + 1)) .read (.rx rx' bits')) := by
  have hstage : stageOf (.scan m) (.anticoll (l + 1)) = true := by
    obtain rfl | rfl := hl <;> rfl
  have hne : l ≠ 0 := by
    obtain rfl | rfl := hl <;> decide
  have hreply : exec (.scan m) (s.answered n w (.selectTrx l) .read (.rx rx 24)) =
      selectReply (s.answered n w (.selectTrx l) .read (.rx rx 24)) w l rx 24 fun w' =>
        anticollCall (s.answered n w (.selectTrx l) .read (.rx rx 24)) w' (l + 1) := rfl
  have hexec := (hreply.trans (selectReply_of_unchecked rfl hunchecked)).trans
    (anticollCall_next_level hne _)
  exact h.answered.converse_exchange (.inl rfl) hstage hexec nofun rfl rfl hrx

/-- A reply without the marker ends SCAN. -/
theorem scan_anticoll_ends (hgood : GoodReply rx bits) (hm : byteAt rx 0 ≠ cascadeTag) :
    converse [] (s.answered n w (.anticoll l) .read (.rx rx bits)) =
      .next ((s.answered n w (.anticoll l) .read (.rx rx bits)).finish
        (w.setSeq (w.seq.takeReply l rx)) .ok .none .none) := by
  have hct : (w.seq.takeReply l rx).ct = false := by rw [SeqUnit.takeReply_of_no_marker hm]
  exact h.answered.converse_nil.trans
    ((exec_scan_good_reply hgood fun hd => hm hd.1).trans (ite_of_false hct))

end Legs

/-! ### The two-level cascade (R175, R181) -/

theorem SeqUnit.eq_with_cryptoHeld {q : SeqUnit} {b : Bool} (h : q.cryptoHeld = b) :
    q = { q with cryptoHeld := b } := by
  rw [← h]

/-- Settles O52: five exchanges; the level-1 reply leaves three UID bytes, the level-2 reply four. -/
theorem scanResolvesASevenByteUid : Obligations.ScanResolvesASevenByteUid := by
  intro s m a0 a1 b1 b2 b3 lo hi sak k1 k2 c0 c1 c2 c3 hf hfree hunchecked hc0
  have h := OnTurn.of_fresh hf
  let level1 : List Byte := [0x88, b1, b2, b3, 0x88 ^^^ b1 ^^^ b2 ^^^ b3]
  let level2 : List Byte := [c0, c1, c2, c3, c0 ^^^ c1 ^^^ c2 ^^^ c3]
  have hrun :=
    (scan_to_request (rx := [a0, a1]) (bits := 16) hf hfree rfl).trans
    <| (scan_request_to_anticoll (rx' := level1) (bits' := 40) h rfl).trans
    <| (scan_anticoll_to_selectCrc h (.inl rfl) ⟨rfl, rfl⟩ rfl lo hi).trans
    <| (scan_selectCrc_to_selectTrx (rx := [sak, k1, k2]) (bits := 24) h (.inl rfl) lo hi rfl).trans
    <| (scan_selectTrx_to_anticoll (rx' := level2) (bits' := 40) h (.inl rfl) hunchecked rfl).trans
    <| scan_anticoll_ends h ⟨rfl, rfl⟩ hc0
  refine ⟨_, hrun, rfl, rfl, rfl, ?_⟩
  refine congrArg s.regs.setSeq ((SeqUnit.takeReply_of_no_marker (rx := level2) hc0 _ 2).trans
    ((SeqUnit.eq_with_cryptoHeld (b := false) ?held).trans ?rest))
  case held => exact hfree
  case rest => rfl

end Sys2Proof.Machine
